-- ==== Sys2Proof/Word.lean ====
section
/-! DEFINITION. The byte, and the fixed-size table that holds a fixed number of like records.  Everything a later
repair may have to mend (rounding, byte order, fields, sets) stands in Sys2Proof/Machine/Ops.lean instead. -/

namespace Sys2Proof

/-- One character of a link (10 R176: 8 data bits), one byte of a message or record (11). -/
abbrev Byte := BitVec 8

/-- A fixed number of like records, numbered from 0 (00 "Numbering and ranges").  The size is part of the value, so
no later proof has to carry it. -/
structure Table (n : Nat) (α : Type) where
  cells : List α
  size_eq : cells.length = n
deriving DecidableEq, Repr

/-- Every record alike. -/
def Table.fill (n : Nat) {α : Type} (x : α) : Table n α := ⟨List.replicate n x, by simp⟩

/-- The record numbered `i`. -/
def Table.get {n : Nat} {α : Type} (t : Table n α) (i : Fin n) : α :=
  t.cells[i.val]'(by rw [t.size_eq]; exact i.isLt)

/-- Replace the record numbered `i`. -/
def Table.set {n : Nat} {α : Type} (t : Table n α) (i : Fin n) (x : α) : Table n α :=
  ⟨t.cells.set i.val x, by simp [t.size_eq]⟩

/-- Change the record numbered `i`. -/
def Table.modify {n : Nat} {α : Type} (t : Table n α) (i : Fin n) (f : α → α) : Table n α :=
  t.set i (f (t.get i))

/-- Change every record alike. -/
def Table.map {n : Nat} {α β : Type} (f : α → β) (t : Table n α) : Table n β :=
  ⟨t.cells.map f, by simp [t.size_eq]⟩

/-- Change every record by a function that also sees its number. -/
def Table.mapIdx {n : Nat} {α β : Type} (f : Nat → α → β) (t : Table n α) : Table n β :=
  ⟨t.cells.mapIdx f, by simp [t.size_eq]⟩

/-- The numbers of a table of `n` records, in rising order. -/
def allFin (n : Nat) : List (Fin n) := List.finRange n

end Sys2Proof
end

