-- ==== Sys2Proof/Syntax.lean ====
section
/-! DEFINITION. The commands: one constructor of `Instr` for each row of spec/opcode_table.json, with the operands
its rule names.  A request carries its link, its tag and the fields of its payload (11 R198, R199) as the numbers
the payload holds: codes of enumerations, indices and settings are not checked here but by the request's own rule
(10 R180).  `Request` is the same request without link and tag, as a complete frame's payload spells it. -/

namespace Sys2Proof

/-- The two links (10 R176). -/
inductive Link where
  | director | panel
deriving DecidableEq, Repr

/-- What the strap pins show (10 R176); `unnamed` is any combination that names none of the three rates. -/
inductive Straps where
  | r115200 | r460800 | r921600 | unnamed
deriving DecidableEq, Repr

/-- One channel of a feedback set (02 R36): force in daN, displacement in µm, valid mark. -/
structure FeedbackIn where
  force : Int
  disp : Int
  valid : Bool
deriving DecidableEq, Repr

/-- One input of a bridge scan (04 R73): raw ratio in nV/V, over-range mark. -/
structure RatioIn where
  ratio : Int
  overRange : Bool
deriving DecidableEq, Repr

/-- The 16 bytes of a segment as a request carries them (11 R199), booleans and codes as their bytes;
`unknown` is a kind byte that is none of the five. -/
inductive SegArg where
  | ramp (target : Int) (rate : Nat)
  | hold (dur : Nat) (mark : Nat)
  | cycle (valley peak : Int) (half count : Nat) (stiff : Nat)
  | gate (id : Nat) (need : Nat)
  | jump (target count : Nat)
  | unknown (kind : Nat)
deriving DecidableEq, Repr

/-- The 42 bytes of SET ACTUATOR (11 R199). -/
structure ActuatorArg where
  index : Nat
  use : Nat
  frame : Nat
  polarity : Nat
  share : Nat
  fmin : Int
  fmax : Int
  trip : Int
  dmin : Int
  dmax : Int
  kp : Nat
  ki : Nat
  rest : Int
  unloadRate : Nat
  peakTol : Nat
deriving DecidableEq, Repr

/-- The 14 bytes of SET CYCLE ACCOUNTING (11 R198). -/
structure CycleArg where
  tracking : Nat
  stroke : Nat
  capture : Nat
  drop : Nat
  dropRun : Nat
  decimation : Nat
  exceptions : Nat
deriving DecidableEq, Repr

/-- The 12 bytes of MAP GAUGE (11 R199). -/
structure GaugeArg where
  gauge : Nat
  module : Nat
  input : Nat
  bridge : Nat
  gfm : Nat
  watch : Nat
  band : Nat
  confirm : Nat
deriving DecidableEq, Repr

/-- The 14 bytes of WRITE PLAN ENTRY (11 R199). -/
structure PlanArg where
  index : Nat
  kind : Nat
  group : Nat
  trigger : Nat
  scans : Nat
  settle : Nat
  interval : Nat
  next : Nat
  marks : Nat
deriving DecidableEq, Repr

/-- A request as its payload spells it (11 R198). -/
inductive Request where
  | status
  | subscribe (classes : Nat)
  | setReplyTimeout (seconds : Nat)
  | partReset
  | readTime
  | resetLoadClock
  | appendSegment (seg : SegArg)
  | writeSegment (index : Nat) (seg : SegArg)
  | clearProgram
  | readSegment (index : Nat)
  | run
  | restart (index : Nat)
  | hold
  | resume
  | openGate (id : Nat)
  | sequencerStatus
  | setActuator (a : ActuatorArg)
  | setFrame (index limit confirm : Nat)
  | setAlignment (rate : Nat)
  | readActuator (index : Nat)
  | setCycleAccounting (a : CycleArg)
  | readCycles
  | resetCycleCounters
  | setStiffnessReference (index value : Nat)
  | clearStiffnessReference (index : Nat)
  | mapGauge (a : GaugeArg)
  | unmapGauge (gauge : Nat)
  | setGroup (group : Nat) (gauges : List Nat)
  | setZero (gauge : Nat) (zero : Int)
  | clearReference (gauge : Nat)
  | clearReferenceAll
  | readGaugesByRange (first count : Nat)
  | readGaugesByGroup (group start count : Nat)
  | writePlanEntry (a : PlanArg)
  | setPlanMode (mode last : Nat)
  | setSurveySettings (zeroWindow minSpan : Int)
  | startPlan (index : Nat)
  | continuePlan
  | extendPlan (index : Nat)
  | stopPlan
  | releaseSet (index : Nat)
  | clearPlan
  | surveyNow (group scans : Nat)
  | readPlanEntry (index : Nat)
  | readStore (count : Nat)
  | releaseStore (number : Nat)
  | clearStore
  | storeStatus
  | setStoreMarks (high low : Nat)
  | setLoop (loop use debounce level : Nat)
  | setAeChannel (chan use window warn alarm : Nat)
  | readCrackStatusSummary
  | readCrackStatusRing (chan : Nat)
  | clearCaution
  | setCause (kind level mask : Nat)
  | arm
  | resumeAlarm
  | readAlarms
  | takeAlarms
deriving DecidableEq, Repr

/-- The commands of the part: the rows of spec/opcode_table.json in its order. -/
inductive Instr where
  | servoPeriodExpiry
  | hallTimeAdvance
  | loadClockAdvance
  | feedbackArrival (channels : List FeedbackIn)
  | scanArrival (module : Nat) (inputs : List RatioIn)
  | loopSample (opens : List Bool)
  | windowReport (chan hits : Nat)
  | estopAsserted
  | estopClear
  | powerOn (line : Bool) (straps : Straps)
  | resetPin
  | resetAfterOk
  | moduleSilence (module : Fin 16)
  | frontendSilence
  | channelSilence (chan : Fin 8)
  | sensorStart (act : Fin 8)
  | twistStart (frame : Fin 4)
  | holdDurationExpiry
  | cycleCompletion
  | settleExpiry
  | collectionEnd (module : Nat) (inputs : List RatioIn)
  | unloadCompletion
  | stalledRecordEntry (tag : Byte) (number : Nat)
  | replyTimeout (l : Link) (slot : Fin 2)
  | gapTimerExpiry (l : Link)
  | lineBreak (l : Link)
  | oversizeDiscard (l : Link) (c : Byte)
  | badCrcDiscard (l : Link) (c : Byte)
  | frameSent (l : Link)
  | badKind (l : Link) (kind tag : Byte)
  | status (l : Link) (tag : Byte)
  | subscribe (l : Link) (tag : Byte) (classes : Nat)
  | setReplyTimeout (l : Link) (tag : Byte) (seconds : Nat)
  | partReset (l : Link) (tag : Byte)
  | readTime (l : Link) (tag : Byte)
  | resetLoadClock (l : Link) (tag : Byte)
  | appendSegment (l : Link) (tag : Byte) (seg : SegArg)
  | writeSegment (l : Link) (tag : Byte) (index : Nat) (seg : SegArg)
  | clearProgram (l : Link) (tag : Byte)
  | readSegment (l : Link) (tag : Byte) (index : Nat)
  | run (l : Link) (tag : Byte)
  | restart (l : Link) (tag : Byte) (index : Nat)
  | hold (l : Link) (tag : Byte)
  | resume (l : Link) (tag : Byte)
  | openGate (l : Link) (tag : Byte) (id : Nat)
  | sequencerStatus (l : Link) (tag : Byte)
  | setActuator (l : Link) (tag : Byte) (a : ActuatorArg)
  | setFrame (l : Link) (tag : Byte) (index limit confirm : Nat)
  | setAlignment (l : Link) (tag : Byte) (rate : Nat)
  | readActuator (l : Link) (tag : Byte) (index : Nat)
  | setCycleAccounting (l : Link) (tag : Byte) (a : CycleArg)
  | readCycles (l : Link) (tag : Byte)
  | resetCycleCounters (l : Link) (tag : Byte)
  | setStiffnessReference (l : Link) (tag : Byte) (index value : Nat)
  | clearStiffnessReference (l : Link) (tag : Byte) (index : Nat)
  | mapGauge (l : Link) (tag : Byte) (a : GaugeArg)
  | unmapGauge (l : Link) (tag : Byte) (gauge : Nat)
  | setGroup (l : Link) (tag : Byte) (group : Nat) (gauges : List Nat)
  | setZero (l : Link) (tag : Byte) (gauge : Nat) (zero : Int)
  | clearReference (l : Link) (tag : Byte) (gauge : Nat)
  | clearReferenceAll (l : Link) (tag : Byte)
  | readGaugesByRange (l : Link) (tag : Byte) (first count : Nat)
  | readGaugesByGroup (l : Link) (tag : Byte) (group start count : Nat)
  | writePlanEntry (l : Link) (tag : Byte) (a : PlanArg)
  | setPlanMode (l : Link) (tag : Byte) (mode last : Nat)
  | setSurveySettings (l : Link) (tag : Byte) (zeroWindow minSpan : Int)
  | startPlan (l : Link) (tag : Byte) (index : Nat)
  | continuePlan (l : Link) (tag : Byte)
  | extendPlan (l : Link) (tag : Byte) (index : Nat)
  | stopPlan (l : Link) (tag : Byte)
  | releaseSet (l : Link) (tag : Byte) (index : Nat)
  | clearPlan (l : Link) (tag : Byte)
  | surveyNow (l : Link) (tag : Byte) (group scans : Nat)
  | readPlanEntry (l : Link) (tag : Byte) (index : Nat)
  | readStore (l : Link) (tag : Byte) (count : Nat)
  | releaseStore (l : Link) (tag : Byte) (number : Nat)
  | clearStore (l : Link) (tag : Byte)
  | storeStatus (l : Link) (tag : Byte)
  | setStoreMarks (l : Link) (tag : Byte) (high low : Nat)
  | setLoop (l : Link) (tag : Byte) (loop use debounce level : Nat)
  | setAeChannel (l : Link) (tag : Byte) (chan use window warn alarm : Nat)
  | readCrackStatusSummary (l : Link) (tag : Byte)
  | readCrackStatusRing (l : Link) (tag : Byte) (chan : Nat)
  | clearCaution (l : Link) (tag : Byte)
  | setCause (l : Link) (tag : Byte) (kind level mask : Nat)
  | arm (l : Link) (tag : Byte)
  | resumeAlarm (l : Link) (tag : Byte)
  | readAlarms (l : Link) (tag : Byte)
  | takeAlarms (l : Link) (tag : Byte)
  | characterReceived (l : Link) (c : Byte)
deriving DecidableEq, Repr

end Sys2Proof
end

