-- ==== Sys2Proof/Decode.lean ====
section
/-! DEFINITION. The command a word of the opcode table spells.  No row of spec/opcode_table.json gives bits: a request
reaches the part as a frame, read by Sys2Proof/Machine/Receive.lean, and an event has no bits at all (log 26). -/

namespace Sys2Proof

/-- No row gives bits, so no word spells a command. -/
def decodeTableWord (_nbits _w : Nat) : Option Instr := none

end Sys2Proof
end

