-- ==== Sys2Proof/Config.lean ====
section
/-! DEFINITION. What the spec leaves open, as constants with no body: no proof can see their value, so a claim
holds whatever it is. -/

namespace Sys2Proof

/-- FREE VALUE (log 6).  The bits a message or record field of `bits` bits holds when the exact value `v` that the
part computed does not fit the field (11 R196 gives each quantity a width and no encoding beyond it; 00 R1 says the
arithmetic itself is exact). -/
opaque Config.outOfField (bits : Nat) (v : Int) : BitVec bits

end Sys2Proof
end

