-- ==== Sys2Proof/Machine/State.lean ====
section
/-! DEFINITION. The state of the GT-8, block by block (00 "Blocks"), plain data throughout, and what a part reset
leaves (00 "Reset").  INVENTORY.md lists every field with the rule that names it. -/

namespace Sys2Proof.Machine

/-! ### Load Sequencer (01) -/

/-- The consents a gate requires (01 R3, R23). -/
inductive Consent where
  | panel | director | both
deriving DecidableEq, Repr

/-- A segment of the load program (01 R3): fields after clamping. -/
inductive Segment where
  | ramp (target : Int) (rate : Nat)
  | hold (dur : Nat) (mark : Bool)
  | cycle (valley peak : Int) (half count : Nat) (stiff : Bool)
  | gate (id : Nat) (need : Consent)
  | jump (target count : Nat)
deriving DecidableEq, Repr

/-- A table entry and, for a JUMP, its repeat counter kept beside it (01 R8). -/
structure ProgEntry where
  seg : Segment
  rep : Option Nat
deriving DecidableEq, Repr

/-- The state a PAUSED sequencer returns to (01 R25). -/
inductive Resume where
  | aligning | running | gated
deriving DecidableEq, Repr

/-- The eight sequencer states (01 R9); PAUSED remembers its resume state. -/
inductive SeqState where
  | idle | aligning | running | gated
  | paused (resume : Resume)
  | unloading | stopped | done
deriving DecidableEq, Repr

/-- The sequencer's position (01 R9): a segment index and its cycles done. -/
structure Position where
  index : Nat
  cyclesDone : Nat
deriving DecidableEq, Repr

/-- An open half-cycle (01 R18): start load A, end load B, effective length H_eff, step counter k, direction. -/
structure Half where
  start : Int
  stop : Int
  len : Nat
  k : Nat
  rising : Bool
deriving DecidableEq, Repr

/-- The working copy of the running segment (01 R13) with its progress: a HOLD's period count (R17), a CYCLE's open
half, the direction of its next half (R18) and the interrupted mark of its cycle (R19). -/
structure Running where
  seg : Segment
  holdCount : Nat
  half : Option Half
  nextRising : Bool
  interrupted : Bool
deriving DecidableEq, Repr

/-- A saved restart position (01 R26): cycles done only for a CYCLE. -/
structure RestartPos where
  index : Nat
  cycles : Option Nat
deriving DecidableEq, Repr

/-- The claim set (01 R24): at most one claim of each claimant. -/
structure Claims where
  director : Bool
  panel : Bool
  store : Bool
  protection : Bool
deriving DecidableEq, Repr

structure Lsq where
  prog : List ProgEntry
  state : SeqState
  pos : Position
  running : Option Running
  restart : Option RestartPos
  claims : Claims
  consentPanel : Bool
  consentDirector : Bool
  /-- P_fine, in fine units of 1/1024 daN (01 R9). -/
  pFine : Int
deriving DecidableEq, Repr

/-! ### Actuator Servo Array (02) -/

/-- The settings of an actuator record (02 R30). -/
structure ActCfg where
  enabled : Bool
  frame : Fin 4
  share : Nat
  fmin : Int
  fmax : Int
  trip : Int
  dmin : Int
  dmax : Int
  kp : Nat
  ki : Nat
  inverted : Bool
  rest : Int
  unloadRate : Nat
  peakTol : Nat
deriving DecidableEq, Repr

/-- An actuator record (02 R30): settings and running state.  The SENSOR condition is not stored: it holds while the
missing-sample count is 8 or more (R37). -/
structure Actuator where
  cfg : ActCfg
  force : Int
  disp : Int
  fresh : Bool
  missing : Nat
  setpoint : Option Int
  integral : Int
  valve : Int
  offset : Int
  unload : Option Int
  arrived : Bool
  overload : Bool
  limit : Bool
deriving DecidableEq, Repr

/-- A frame record (02 R31) with its running twist count and its TWIST condition (R54). -/
structure Frame where
  limit : Nat
  confirm : Nat
  count : Nat
  twist : Bool
deriving DecidableEq, Repr

structure Asa where
  acts : Table 8 Actuator
  frames : Table 4 Frame
  alignRate : Nat
  /-- The measured reference load Pm of the latest period (02 R51). -/
  pm : Int
  /-- The isolation output: true is ENERGIZED (02 R48). -/
  isolation : Bool
deriving DecidableEq, Repr

/-! ### Cycle Accounting Unit (03) -/

/-- An extreme and the displacement of the first period at which it was reached (03 R57). -/
structure Extreme where
  force : Int
  disp : Int
deriving DecidableEq, Repr

/-- A qualifying actuator of the window with its extremes (03 R56). -/
structure QualAct where
  act : Fin 8
  peak : Option Extreme
  valley : Option Extreme
deriving DecidableEq, Repr

/-- The open cycle window (03 R55, R56). -/
structure Window where
  acts : List QualAct
  peakLoad : Int
  valleyLoad : Int
deriving DecidableEq, Repr

/-- A stiffness reference (03 R64). -/
inductive StiffRef where
  | none
  | capturing (count sum : Nat)
  | valid (value : Nat)
deriving DecidableEq, Repr

inductive Judgement where
  | achieved | outOfTolerance | notJudged
deriving DecidableEq, Repr

/-- One actuator of the last-cycle summary (03 R70). -/
structure LastAct where
  act : Fin 8
  inTol : Option Bool
  stiffness : Option Nat
deriving DecidableEq, Repr

structure LastCycle where
  total : Nat
  judgement : Judgement
  interrupted : Bool
  acts : List LastAct
deriving DecidableEq, Repr

/-- The settings of SET CYCLE ACCOUNTING (03 R69). -/
structure CycleCfg where
  tracking : Nat
  stroke : Nat
  capture : Nat
  drop : Nat
  dropRun : Nat
  decimation : Nat
  exceptions : Bool
deriving DecidableEq, Repr

structure Cau where
  total : Nat
  achieved : Nat
  outTol : Nat
  notJudged : Nat
  lost : Nat
  window : Option Window
  trackRun : Nat
  refs : Table 8 StiffRef
  dropRuns : Table 8 Nat
  last : Option LastCycle
  cfg : CycleCfg
deriving DecidableEq, Repr

/-! ### Strain Scan Unit (04) -/

/-- Why a latest value may or may not be used (04 R76). -/
inductive Validity where
  | valid | overRange | silent | noneYet
deriving DecidableEq, Repr

/-- A gauge's reference (04 R83, R84). -/
inductive GaugeRef where
  | none
  | lowSet (pLo epsLo : Int)
  | valid (pLo epsLo slope : Int)
deriving DecidableEq, Repr

/-- A gauge record (04 R76). -/
structure Gauge where
  mapping : Option (Fin 16 × Fin 16)
  bridge : Nat
  gfm : Nat
  zero : Int
  ratio : Int
  strain : Int
  at_ : Nat
  validity : Validity
  ref : GaugeRef
  watch : Bool
  band : Nat
  confirm : Nat
  devRun : Nat
  devHolds : Bool
  lastDev : Option Int
  devFlag : Bool
deriving DecidableEq, Repr

/-- A bridge module's record (04 R72); whether it is in use follows the gauge map. -/
structure Module where
  last : Nat
  silent : Bool
deriving DecidableEq, Repr

structure Ssu where
  gauges : Table 256 Gauge
  modules : Table 16 Module
  groups : Table 32 (List (Fin 256))
deriving DecidableEq, Repr

/-! ### Records of the store (06 R121) and the Survey Engine (05) -/

inductive SurveyKind where
  | zero | static | refLow | refHigh | range
deriving DecidableEq, Repr

inductive TriggerKind where
  | immediate | onHold | onGate | everyCycles
deriving DecidableEq, Repr

inductive EntryResult where
  | done | donePartial | aborted | refusedLoaded | spanShort
deriving DecidableEq, Repr

/-- What the Strain Scan Unit hands back for a high point (04 R84). -/
inductive RefOutcome where
  | formed (slope : Int) | spanShort | notLowSet
deriving DecidableEq, Repr

/-- Who asked for a survey (05 R108). -/
inductive Source where
  | plan (entry : Fin 64) (setNo : Nat)
  | demand (l : Link) (tag : Byte)
deriving DecidableEq, Repr

/-- A gauge entry of a SURVEY record (05 R108, 11 R201): `extra` is the zero (ZERO) or the slope (REF_HIGH FORMED). -/
structure SurveyGauge where
  gauge : Fin 256
  valid : Nat
  average : Option Int
  devFlag : Bool
  lowHanded : Bool
  outcome : Option RefOutcome
  extra : Int
deriving DecidableEq, Repr

structure SurveyBody where
  source : Source
  kind : SurveyKind
  group : Fin 32
  scans : Nat
  start : Nat
  stop : Nat
  periods : Nat
  pmAvg : Int
  result : EntryResult
  gauges : List SurveyGauge
deriving DecidableEq, Repr

structure RangeGauge where
  gauge : Fin 256
  valid : Nat
  hi : Option Int
  lo : Option Int
  devFlag : Bool
deriving DecidableEq, Repr

structure RangeBody where
  source : Source
  group : Fin 32
  start : Nat
  stop : Nat
  periods : Nat
  total : Nat
  pmHi : Int
  pmLo : Int
  result : EntryResult
  gauges : List RangeGauge
deriving DecidableEq, Repr

/-- One actuator of a CYCLE record (03 R68). -/
structure CycleAct where
  act : Fin 8
  peakSet : Int
  valleySet : Int
  peak : Option Extreme
  valley : Option Extreme
  inTol : Option Bool
  stiffness : Option Nat
  ref : StiffRef
deriving DecidableEq, Repr

structure CycleBody where
  decimation : Bool
  exception : Bool
  total : Nat
  counted : Bool
  index : Nat
  cyclesDone : Nat
  judgement : Judgement
  interrupted : Bool
  acts : List CycleAct
deriving DecidableEq, Repr

/-- The eleven cause kinds (08 R149). -/
inductive CauseKind where
  | estop | sensor | overload | limit | twist | tracking | stiffness | crackLoop | aeAlarm | deviation
  | frontendSilent
deriving DecidableEq, Repr

/-- The levels, in rising order (08 R154). -/
inductive Level where
  | none | notify | hold | unload | dump
deriving DecidableEq, Repr

/-- The six protection states (08 R156). -/
inductive PState where
  | safe | armed | holding | unloading | unloaded | dumped
deriving DecidableEq, Repr

/-- A cause record (08 R148).  Subjects are the bit numbers of 11 R197, kept rising and without repeats; the plain
flags of ESTOP, which has no subjects, are the sets {} and {0}.  CRACK_LOOP has no level of its own. -/
structure Cause where
  latched : List Nat
  active : List Nat
  masked : Bool
  level : Option Level
  stamp : Option Nat
deriving DecidableEq, Repr

/-- A latched cause as a snapshot carries it (06 R121), with the level in force for it then. -/
structure SnapCause where
  kind : CauseKind
  cause : Cause
  level : Option Level
deriving DecidableEq, Repr

structure SnapAct where
  act : Fin 8
  force : Int
  disp : Int
  missing : Nat
  setpoint : Option Int
  valve : Int
  overload : Bool
  limit : Bool
  sensor : Bool
deriving DecidableEq, Repr

structure SnapBody where
  entered : PState
  left : PState
  demand : Level
  caution : Bool
  seq : SeqState
  index : Nat
  claims : Claims
  cyclesDone : Option Nat
  line : Bool
  load : Int
  pm : Int
  total : Nat
  causes : List SnapCause
  acts : List SnapAct
deriving DecidableEq, Repr

/-- The body of a record, by kind (06 R121). -/
inductive RecordBody where
  | survey (b : SurveyBody)
  | range (b : RangeBody)
  | cycle (b : CycleBody)
  | snapshot (b : SnapBody)
deriving DecidableEq, Repr

structure Record where
  number : Nat
  stamp : Nat
  body : RecordBody
deriving DecidableEq, Repr

/-! ### Survey Engine (05) -/

/-- A plan entry in use (05 R92). -/
structure PlanEntry where
  kind : SurveyKind
  group : Fin 32
  scans : Nat
  trigger : TriggerKind
  settle : Nat
  interval : Nat
  next : Fin 64
  holdMark : Bool
  setEnd : Bool
  notify : Bool
  complete : Bool
  result : Option EntryResult
  setNo : Option Nat
  setLast : Option (Fin 64)
deriving DecidableEq, Repr

inductive EngineState where
  | off | waiting | collecting | stalled | held
deriving DecidableEq, Repr

inductive HeldReason where
  | endMark | endLast | chainBroken | aborted
deriving DecidableEq, Repr

/-- The open set (05 R91, R99): its first completed entry and the entry most recently completed in it. -/
structure OpenSet where
  first : Option (Fin 64)
  lastDone : Option (Fin 64)
deriving DecidableEq, Repr

/-- Trigger progress of the current entry (05 R101, R103): `segment` after a HOLD (`gate` false) or GATE triggered
it, with the settle count; `target` for an EVERY_CYCLES entry, with the total the target was formed from, and
whether it is triggered and waits for the next cycle window. -/
inductive Trigger where
  | untriggered
  | segment (gate : Bool) (count : Nat)
  | target (target base : Nat) (triggered : Bool)
deriving DecidableEq, Repr

/-- A gauge being gathered (05 R104, R107): arrivals taken, valid values and their sum or extremes; `spoiled` once a
zero was handed to it while the demand collector gathers it (R105). -/
structure CollGauge where
  gauge : Fin 256
  arrivals : Nat
  valid : Nat
  sum : Int
  hi : Option Int
  lo : Option Int
  spoiled : Bool
deriving DecidableEq, Repr

/-- A collection in progress (05 R104, R107); `refused` marks a ZERO refused for load (R105). -/
structure Collection where
  kind : SurveyKind
  group : Fin 32
  scans : Nat
  gauges : List CollGauge
  start : Nat
  periods : Nat
  pmSum : Int
  pmHi : Option Int
  pmLo : Option Int
  refused : Bool
deriving DecidableEq, Repr

/-- A demand request (05 R113) with the deferred slot it is tied to (10 R191) and whether its reply has been given
TIMED_OUT (10 R192). -/
structure DemandReq where
  link : Link
  tag : Byte
  group : Fin 32
  scans : Nat
  slot : Fin 2
  replied : Bool
deriving DecidableEq, Repr

/-- The demand collector (05 R114). -/
inductive DemandWork where
  | idle
  | collecting (c : Collection)
  | stalled (b : SurveyBody)
deriving DecidableEq, Repr

structure Sve where
  plan : Table 64 (Option PlanEntry)
  state : EngineState
  current : Option (Fin 64)
  heldReason : Option HeldReason
  setCounter : Nat
  openSet : Option OpenSet
  modeLast : Bool
  lastIndex : Fin 64
  zeroWindow : Int
  minSpan : Int
  trigger : Trigger
  collector : Option Collection
  stalledRec : Option RecordBody
  demand : List DemandReq
  work : DemandWork
  /-- MODEL'S OWN: a chain of completions inside one event did not end (log 5). -/
  endless : Bool
deriving DecidableEq, Repr

/-! ### Capture Store (06) -/

/-- The two collectors a stall may name (06 R118). -/
inductive Collector where
  | plan | demand
deriving DecidableEq, Repr

structure Cst where
  records : List Record
  nextNo : Nat
  high : Nat
  low : Nat
  armed : Bool
  stalls : List Collector
deriving DecidableEq, Repr

/-! ### Crack Monitor (07) -/

/-- A loop record (07 R134); `last` is the last continuity, `some true` for OPEN. -/
structure LoopRec where
  used : Bool
  broken : Bool
  debounce : Nat
  level : Level
  count : Nat
  last : Option Bool
deriving DecidableEq, Repr

/-- An AE channel record (07 R139); the ring runs oldest to newest. -/
structure Channel where
  used : Bool
  window : Nat
  warn : Nat
  alarm : Nat
  ring : List Nat
  sum : Nat
  silent : Bool
  last : Nat
  aeAlarm : Bool
deriving DecidableEq, Repr

structure Ckm where
  loops : Table 32 LoopRec
  feSilent : Bool
  feLast : Nat
  chans : Table 8 Channel
  caution : Bool
  cautionAt : Option Nat
deriving DecidableEq, Repr

/-! ### Protection Unit (08) -/

structure Pru where
  causes : Table 11 Cause
  state : PState
  entered : Nat
deriving DecidableEq, Repr

/-! ### Test Time (09) -/

structure Tmb where
  q : Nat
  hall : Nat
  loadValue : Nat
  loadPhase : Nat
deriving DecidableEq, Repr

/-! ### Link Interface (10) -/

/-- The receive assembler (10 R177): the characters stored so far, in the order they came (header, payload, CRC). -/
inductive Assembler where
  | hunting
  | sync
  | header (got : List Byte)
  | payload (len : Nat) (kind tag : Byte) (got : List Byte)
  | check (kind tag : Byte) (payload : List Byte) (got : List Byte)
deriving DecidableEq, Repr

/-- A frame as sent: kind, tag and payload (10 R177); the sync bytes, length and CRC follow from them. -/
structure FrameOut where
  kind : Byte
  tag : Byte
  payload : List Byte
deriving DecidableEq, Repr

inductive NoticeClass where
  | alarm | state | gate | survey | plan | store | caution
deriving DecidableEq, Repr

/-- The content of an ALARM notice (08 R166, 10 R188). -/
structure AlarmBody where
  after : PState
  before : PState
  demand : Level
  line : Bool
  lost : Bool
  firstSnap : Option Nat
  lastSnap : Option Nat
  causes : List (CauseKind × List Nat)
deriving DecidableEq, Repr

/-- The content of a notice, by class (11 R200). -/
inductive NoticeBody where
  | alarm (b : AlarmBody)
  | state (seq : SeqState) (pru : PState) (index : Nat)
  | gate (left : Bool) (id index : Nat) (need : Consent)
  | survey (source : Source) (kind : SurveyKind) (result : EntryResult) (setNo recNo : Nat)
  | plan (broken aborted openSet : Bool) (current : Option (Fin 64)) (setNo : Nat)
  | store (fill snaps high low oldest newest : Nat) (claim : Bool) (stalls : Nat)
  | caution (on : Bool) (time : Nat) (chan : Option (Fin 8)) (sum warn : Nat) (above : List Nat)
deriving DecidableEq, Repr

structure Notice where
  body : NoticeBody
  stamp : Nat
  merge : Nat
deriving DecidableEq, Repr

/-- A deferred slot (10 R191, R192). -/
inductive Slot where
  | free
  | waiting (kind tag : Byte) (clamped : Bool) (deadline : Nat)
  | ready (reply : FrameOut)
deriving DecidableEq, Repr

/-- What LKI keeps for one link (10 R176). -/
structure LinkSt where
  rx : Assembler
  replies : List FrameOut
  notices : List Notice
  /-- The subscription set: bit i is notice class i (11 R197). -/
  subs : BitVec 7
  slots : Table 2 Slot
  readyOrder : List (Fin 2)
  lost : Bool
  gap : Nat
  check : Nat
  length : Nat
  queue : Nat
  tx : Option FrameOut
deriving DecidableEq, Repr

structure Lki where
  director : LinkSt
  panel : LinkSt
  timeout : Nat
  resetPending : Bool
  rate : Straps
deriving DecidableEq, Repr

/-- The input pins, which a part reset reads and does not change (08 R152, 10 R176). -/
structure Pins where
  /-- The emergency-stop line: true is ASSERTED. -/
  estop : Bool
  straps : Straps
deriving DecidableEq, Repr

/-- The state of the part and the queue of commands waiting for it. -/
structure State where
  tmb : Tmb
  lsq : Lsq
  asa : Asa
  cau : Cau
  ssu : Ssu
  sve : Sve
  cst : Cst
  ckm : Ckm
  pru : Pru
  lki : Lki
  pins : Pins
  pending : List Instr
deriving DecidableEq, Repr

/-- Why the part stops. -/
inductive Fault where
  /-- Raised at the end of an event in which the survey plan went round a chain of entries that complete at once and
  never end (05 R96 with R98: every completion "within the same event"); the spec gives such an event no outcome.
  Safe: the model stops where the part's event would not end (log 5). -/
  | surveyChainEndless
deriving DecidableEq, Repr

/-- Why a command has no meaning in the model. -/
inductive Refusal where
  /-- Raised by exec alone, for a row that has no meaning yet; no row is left so.  Safe. -/
  | notModelled (mnemonic : String)
deriving DecidableEq, Repr

/-! ### Reset values -/

/-- 02 R30. -/
def actuatorReset : Actuator :=
  { cfg := { enabled := false, frame := 0, share := 0, fmin := -1000000, fmax := 1000000, trip := 1000000,
             dmin := -500000, dmax := 500000, kp := 0, ki := 0, inverted := false, rest := 0,
             unloadRate := 1000, peakTol := 1000 }
    force := 0, disp := 0, fresh := false, missing := 0, setpoint := none, integral := 0, valve := 0,
    offset := 0, unload := none, arrived := false, overload := false, limit := false }

/-- 02 R31. -/
def frameReset : Frame := { limit := 0, confirm := 16, count := 0, twist := false }

/-- 04 R76. -/
def gaugeReset : Gauge :=
  { mapping := none, bridge := 4, gfm := 2000, zero := 0, ratio := 0, strain := 0, at_ := 0,
    validity := .noneYet, ref := .none, watch := false, band := 1000, confirm := 3, devRun := 0,
    devHolds := false, lastDev := none, devFlag := false }

/-- 07 R134. -/
def loopReset : LoopRec :=
  { used := false, broken := false, debounce := 4, level := .hold, count := 0, last := none }

/-- 07 R139. -/
def channelReset : Channel :=
  { used := false, window := 16, warn := 2000, alarm := 8000, ring := List.replicate 16 0, sum := 0,
    silent := false, last := 0, aeAlarm := false }

/-- A cause record after a part reset (08 R148, R149). -/
def causeReset (level : Option Level) : Cause :=
  { latched := [], active := [], masked := false, level := level, stamp := none }

/-- The default levels of 08 R149, in table order. -/
def causesReset : Table 11 Cause :=
  ⟨[causeReset (some .dump), causeReset (some .dump), causeReset (some .dump), causeReset (some .unload),
    causeReset (some .unload), causeReset (some .hold), causeReset (some .hold), causeReset none,
    causeReset (some .hold), causeReset (some .hold), causeReset (some .notify)], rfl⟩

/-- 10 R176, with the subscription set of the link. -/
def linkReset (subs : BitVec 7) : LinkSt :=
  { rx := .hunting, replies := [], notices := [], subs := subs, slots := Table.fill 2 .free, readyOrder := [],
    lost := false, gap := 0, check := 0, length := 0, queue := 0, tx := none }

/-- The rate the straps select (10 R176): none of the three named selects 115,200 baud. -/
def strapRate : Straps → Straps
  | .unnamed => .r115200
  | r => r

def tmbReset : Tmb := { q := 0, hall := 0, loadValue := 0, loadPhase := 0 }

/-- 01 R9. -/
def lsqReset : Lsq :=
  { prog := [], state := .idle, pos := ⟨0, 0⟩, running := none, restart := none,
    claims := ⟨false, false, false, false⟩, consentPanel := false, consentDirector := false, pFine := 0 }

/-- 02 R30, R31, R34, R48, R51. -/
def asaReset : Asa :=
  { acts := Table.fill 8 actuatorReset, frames := Table.fill 4 frameReset, alignRate := 1000, pm := 0,
    isolation := false }

/-- 03 R55. -/
def cauReset : Cau :=
  { total := 0, achieved := 0, outTol := 0, notJudged := 0, lost := 0, window := none, trackRun := 0,
    refs := Table.fill 8 .none, dropRuns := Table.fill 8 0, last := none,
    cfg := { tracking := 3, stroke := 100, capture := 16, drop := 100, dropRun := 3, decimation := 0,
             exceptions := false } }

/-- 04 R90. -/
def ssuReset : Ssu :=
  { gauges := Table.fill 256 gaugeReset, modules := Table.fill 16 { last := 0, silent := false },
    groups := Table.fill 32 [] }

/-- 05 R91. -/
def sveReset : Sve :=
  { plan := Table.fill 64 none, state := .off, current := none, heldReason := none, setCounter := 0,
    openSet := none, modeLast := false, lastIndex := 0, zeroWindow := 500, minSpan := 10000,
    trigger := .untriggered, collector := none, stalledRec := none, demand := [], work := .idle,
    endless := false }

/-- 06 R118. -/
def cstReset : Cst := { records := [], nextNo := 1, high := 192, low := 64, armed := true, stalls := [] }

/-- 07 R132. -/
def ckmReset : Ckm :=
  { loops := Table.fill 32 loopReset, feSilent := false, feLast := 0, chans := Table.fill 8 channelReset,
    caution := false, cautionAt := none }

/-- 08 R148, R156, and R152: with the line ASSERTED, ESTOP is latched at once with stamp 0 and active. -/
def pruReset (line : Bool) : Pru :=
  { causes :=
      if line then causesReset.modify 0 (fun c => { c with latched := [0], active := [0], stamp := some 0 })
      else causesReset
    state := .safe, entered := 0 }

/-- 10 R176: the Director takes all seven classes, the Panel ALARM, STATE and GATE. -/
def lkiReset (straps : Straps) : Lki :=
  { director := linkReset 0x7F#7, panel := linkReset 0x07#7, timeout := 120, resetPending := false,
    rate := strapRate straps }

/-- The part right after a part reset, with the pins as they stand and the queue of commands kept (log 29). -/
def State.resetWith (pins : Pins) (pending : List Instr) : State :=
  { tmb := tmbReset, lsq := lsqReset, asa := asaReset, cau := cauReset, ssu := ssuReset, sve := sveReset,
    cst := cstReset, ckm := ckmReset, pru := pruReset pins.estop, lki := lkiReset pins.straps, pins := pins,
    pending := pending }

/-- The machine right after reset: the line CLEAR and the straps at 115,200 baud (DESIGN CHOICE, log 1), no command
waiting. -/
def State.reset : State := State.resetWith { estop := false, straps := .r115200 } []

/-! ### Named updates, one for each block (their field lemmas: Sys2Proof/Laws/State.lean) -/

def State.updTmb (s : State) (f : Tmb → Tmb) : State := { s with tmb := f s.tmb }
def State.updLsq (s : State) (f : Lsq → Lsq) : State := { s with lsq := f s.lsq }
def State.updAsa (s : State) (f : Asa → Asa) : State := { s with asa := f s.asa }
def State.updCau (s : State) (f : Cau → Cau) : State := { s with cau := f s.cau }
def State.updSsu (s : State) (f : Ssu → Ssu) : State := { s with ssu := f s.ssu }
def State.updSve (s : State) (f : Sve → Sve) : State := { s with sve := f s.sve }
def State.updCst (s : State) (f : Cst → Cst) : State := { s with cst := f s.cst }
def State.updCkm (s : State) (f : Ckm → Ckm) : State := { s with ckm := f s.ckm }
def State.updPru (s : State) (f : Pru → Pru) : State := { s with pru := f s.pru }
def State.updLki (s : State) (f : Lki → Lki) : State := { s with lki := f s.lki }

end Sys2Proof.Machine
end

