-- ==== Sys2Proof/Machine/Ops.lean ====
section
/-! DEFINITION. Shared operations: rounding (00 R1), clamping (10 R182), times modulo 2³² (09 R171), subject sets, the
little-endian fields of messages and records (11 R196), the CRC of a frame (10 R177), and access to the two links. -/

namespace Sys2Proof.Machine

/-! ### Arithmetic -/

/-- 00 R1: the nearest integer to `n / d`, halves rounded away from zero; `d` is never 0 where it is used. -/
def roundDiv (n d : Int) : Int :=
  let q : Int := ((2 * n.natAbs + d.natAbs) / (2 * d.natAbs) : Nat)
  if decide (n < 0) == decide (d < 0) then q else -q

/-- 10 R182: the nearer end of the range, or the value itself. -/
def clampInt (lo hi v : Int) : Int := if v < lo then lo else if hi < v then hi else v

/-- `clampInt` for unsigned settings. -/
def clampNat (lo hi v : Nat) : Nat := if v < lo then lo else if hi < v then hi else v

/-- Move `v` toward `goal` by `step`, arriving exactly when no more than `step` remains (01 R16, 02 R45, R49). -/
def moveToward (goal : Int) (step : Nat) (v : Int) : Int :=
  if (goal - v).natAbs ≤ step then goal else if v < goal then v + step else v - step

/-- 2³², the number of hall times (09 R170). -/
def wrap32 : Nat := 4294967296

/-- The largest u32, where a counter stops (03 R61). -/
def max32 : Nat := 4294967295

/-- The later hall time less the earlier, modulo 2³² (09 R171). -/
def elapsed (later earlier : Nat) : Nat := (later + wrap32 - earlier) % wrap32

/-- ceil(a / 2) (05 R104). -/
def halfUp (a : Nat) : Nat := (a + 1) / 2

/-! ### Sets of numbers, kept rising and without repeats -/

def insertNum (x : Nat) : List Nat → List Nat
  | [] => [x]
  | y :: ys => if x < y then x :: y :: ys else if x = y then y :: ys else y :: insertNum x ys

def eraseNum (x : Nat) (l : List Nat) : List Nat := l.filter (fun y => !(y == x))

def unionNum (a b : List Nat) : List Nat := a.foldl (fun acc x => insertNum x acc) b

/-! ### Bytes (11 R196) -/

/-- The `n` bytes of a bit pattern, least significant first. -/
def leBits : (n : Nat) → Nat → List Byte
  | 0, _ => []
  | n + 1, v => BitVec.ofNat 8 v :: leBits n (v / 256)

/-- An unsigned field of `n` bytes; a value that does not fit it is a free value (log 6). -/
def encNat (n v : Nat) : List Byte :=
  if v < 2 ^ (8 * n) then leBits n v else leBits n (Config.outOfField (8 * n) v).toNat

/-- A two's complement field of `n` bytes; a value that does not fit it is a free value (log 6). -/
def encInt (n : Nat) (v : Int) : List Byte :=
  if -(2 ^ (8 * n - 1) : Int) ≤ v ∧ v < (2 ^ (8 * n - 1) : Int) then leBits n (BitVec.ofInt (8 * n) v).toNat
  else leBits n (Config.outOfField (8 * n) v).toNat

def u8 (v : Nat) : List Byte := encNat 1 v
def u16 (v : Nat) : List Byte := encNat 2 v
def u32 (v : Nat) : List Byte := encNat 4 v
def u64 (v : Nat) : List Byte := encNat 8 v
def i16 (v : Int) : List Byte := encInt 2 v
def i32 (v : Int) : List Byte := encInt 4 v
def i48 (v : Int) : List Byte := encInt 6 v
def i64 (v : Int) : List Byte := encInt 8 v

/-- A boolean byte. -/
def flag (b : Bool) : List Byte := [if b then 1#8 else 0#8]

/-- Two booleans and up as the bits of one byte, bit 0 first. -/
def bits (l : List Bool) : Nat := l.foldr (fun b n => (if b then 1 else 0) + 2 * n) 0

/-- An absent signed value of `n` bytes: the most negative value of the type (11 R196). -/
def absentInt (n : Nat) : List Byte := leBits n (2 ^ (8 * n - 1))

def i32? (v : Option Int) : List Byte := v.elim (absentInt 4) i32
def i48? (v : Option Int) : List Byte := v.elim (absentInt 6) i48
def i64? (v : Option Int) : List Byte := v.elim (absentInt 8) i64

/-- An index or enumeration that may be absent: 0xFF (11 R196). -/
def u8? (v : Option Nat) : List Byte := v.elim [0xFF#8] u8

/-- An unsigned field that may be absent, preceded by its presence byte (11 R196). -/
def present? (n : Nat) (v : Option Nat) : List Byte :=
  flag v.isSome ++ encNat n (v.getD 0)

/-- A record or set number that may be absent: 0 (11 R196). -/
def number? (v : Option Nat) : Nat := v.getD 0

/-- A set as a bitmap of `n` bytes: member i is bit i mod 8 of byte i div 8 (11 R196). -/
def bitmap (n : Nat) (members : List Nat) : List Byte :=
  (List.range n).map fun b =>
    BitVec.ofNat 8 (bits ((List.range 8).map fun k => members.contains (8 * b + k)))

/-- A list: a u8 count and the entries (11 R196). -/
def listOf (entries : List (List Byte)) : List Byte := u8 entries.length ++ entries.flatten

/-! ### The CRC of a frame (10 R177) -/

/-- One bit of x¹⁶ + x¹² + x⁵ + 1, high bit first. -/
def crcBit (r : BitVec 16) : BitVec 16 :=
  if r.msb then (r <<< 1) ^^^ 0x1021#16 else r <<< 1

def crcByte (r : BitVec 16) (b : Byte) : BitVec 16 :=
  let r := r ^^^ ((b.setWidth 16) <<< 8)
  crcBit (crcBit (crcBit (crcBit (crcBit (crcBit (crcBit (crcBit r)))))))

/-- Initial value 0xFFFF, no reflection, no final inversion. -/
def crc (bytes : List Byte) : BitVec 16 := bytes.foldl crcByte 0xFFFF#16

/-- The CRC as sent: high byte first. -/
def crcBytes (bytes : List Byte) : List Byte :=
  let c := crc bytes
  [(c >>> 8).setWidth 8, c.setWidth 8]

/-- The bytes a CRC is formed over: length, kind, tag and payload (10 R177). -/
def frameBody (f : FrameOut) : List Byte := leBits 2 f.payload.length ++ [f.kind, f.tag] ++ f.payload

/-- A frame on the wire, from its first sync byte to its second CRC byte (10 R177, R184). -/
def frameBytes (f : FrameOut) : List Byte :=
  [0xB5#8, 0x4C#8] ++ frameBody f ++ crcBytes (frameBody f)

/-! ### Access to the links and to numbered records -/

def State.link (s : State) : Link → LinkSt
  | .director => s.lki.director
  | .panel => s.lki.panel

def State.updLink (s : State) (l : Link) (f : LinkSt → LinkSt) : State :=
  s.updLki fun k =>
    match l with
    | .director => { k with director := f k.director }
    | .panel => { k with panel := f k.panel }

def State.act (s : State) (i : Fin 8) : Actuator := s.asa.acts.get i
def State.updAct (s : State) (i : Fin 8) (f : Actuator → Actuator) : State :=
  s.updAsa fun a => { a with acts := a.acts.modify i f }
def State.updActs (s : State) (f : Actuator → Actuator) : State :=
  s.updAsa fun a => { a with acts := a.acts.map f }

def State.frame (s : State) (i : Fin 4) : Frame := s.asa.frames.get i
def State.updFrame (s : State) (i : Fin 4) (f : Frame → Frame) : State :=
  s.updAsa fun a => { a with frames := a.frames.modify i f }

def State.gauge (s : State) (g : Fin 256) : Gauge := s.ssu.gauges.get g
def State.updGauge (s : State) (g : Fin 256) (f : Gauge → Gauge) : State :=
  s.updSsu fun u => { u with gauges := u.gauges.modify g f }

def State.module (s : State) (m : Fin 16) : Module := s.ssu.modules.get m
def State.updModule (s : State) (m : Fin 16) (f : Module → Module) : State :=
  s.updSsu fun u => { u with modules := u.modules.modify m f }

def State.entry (s : State) (i : Fin 64) : Option PlanEntry := s.sve.plan.get i
def State.setEntry (s : State) (i : Fin 64) (e : Option PlanEntry) : State :=
  s.updSve fun v => { v with plan := v.plan.set i e }

def State.loop (s : State) (i : Fin 32) : LoopRec := s.ckm.loops.get i
def State.updLoop (s : State) (i : Fin 32) (f : LoopRec → LoopRec) : State :=
  s.updCkm fun k => { k with loops := k.loops.modify i f }

def State.chan (s : State) (i : Fin 8) : Channel := s.ckm.chans.get i
def State.updChan (s : State) (i : Fin 8) (f : Channel → Channel) : State :=
  s.updCkm fun k => { k with chans := k.chans.modify i f }

/-- The row of a cause kind in the cause table (08 R149, 11 R197). -/
def CauseKind.row : CauseKind → Fin 11
  | .estop => 0 | .sensor => 1 | .overload => 2 | .limit => 3 | .twist => 4 | .tracking => 5
  | .stiffness => 6 | .crackLoop => 7 | .aeAlarm => 8 | .deviation => 9 | .frontendSilent => 10

def State.cause (s : State) (k : CauseKind) : Cause := s.pru.causes.get k.row
def State.updCause (s : State) (k : CauseKind) (f : Cause → Cause) : State :=
  s.updPru fun p => { p with causes := p.causes.modify k.row f }

/-- The eleven kinds in table order. -/
def allCauses : List CauseKind :=
  [.estop, .sensor, .overload, .limit, .twist, .tracking, .stiffness, .crackLoop, .aeAlarm, .deviation,
   .frontendSilent]

/-- Hall time now: the stamp of whatever the event does (09 R174). -/
def State.now (s : State) : Nat := s.tmb.hall

end Sys2Proof.Machine
end

