-- ==== Sys2Proof/Machine/Operands.lean ====
section
/-! DEFINITION. The operand forms of requests: the codes of enumerations (11 R197), booleans (11 R196), indices, and
the checked and clamped settings of a request (10 R182).  `none` from a check is a refusal BAD_FIELD. -/

namespace Sys2Proof.Machine

/-! ### Status codes (10 R181, 11 R197) -/

inductive Status where
  | ok | okClamped | badKind | badLength | badField | denied | wrongState | busy | full | inUse | notGated
  | staleGate | causeLatched | estopActive | timedOut | aborted
deriving DecidableEq, Repr

def Status.code : Status → Byte
  | .ok => 0#8 | .okClamped => 1#8 | .badKind => 2#8 | .badLength => 3#8 | .badField => 4#8 | .denied => 5#8
  | .wrongState => 6#8 | .busy => 7#8 | .full => 8#8 | .inUse => 9#8 | .notGated => 10#8 | .staleGate => 11#8
  | .causeLatched => 12#8 | .estopActive => 13#8 | .timedOut => 14#8 | .aborted => 15#8

/-- What the owner of a request answers: a status with content, or nothing yet (10 R180, R191). -/
inductive Answer where
  | reply (st : Status) (content : List Byte)
  | deferred
deriving DecidableEq, Repr

/-- A refusal: the status alone (10 R181). -/
def refuse (st : Status) : Answer := .reply st []

/-- OK, or OK_CLAMPED where a numeric setting was clamped (10 R182). -/
def okOr (clamped : Bool) : Status := if clamped then .okClamped else .ok

/-! ### Codes of enumerations (11 R197) -/

def linkCode : Link → Nat
  | .director => 0 | .panel => 1

def rateCode : Straps → Nat
  | .r115200 => 0 | .r460800 => 1 | .r921600 => 2 | .unnamed => 0

def Consent.code : Consent → Nat
  | .panel => 0 | .director => 1 | .both => 2

def SeqState.code : SeqState → Nat
  | .idle => 0 | .aligning => 1 | .running => 2 | .gated => 3 | .paused _ => 4 | .unloading => 5
  | .stopped => 6 | .done => 7

def Resume.code : Resume → Nat
  | .aligning => 1 | .running => 2 | .gated => 3

/-- The resume state, present in PAUSED only. -/
def SeqState.resumeCode? : SeqState → Option Nat
  | .paused r => some r.code
  | _ => none

def PState.code : PState → Nat
  | .safe => 0 | .armed => 1 | .holding => 2 | .unloading => 3 | .unloaded => 4 | .dumped => 5

def Level.code : Level → Nat
  | .none => 0 | .notify => 1 | .hold => 2 | .unload => 3 | .dump => 4

def CauseKind.code (k : CauseKind) : Nat := k.row.val

def SurveyKind.code : SurveyKind → Nat
  | .zero => 0 | .static => 1 | .refLow => 2 | .refHigh => 3 | .range => 4

def TriggerKind.code : TriggerKind → Nat
  | .immediate => 0 | .onHold => 1 | .onGate => 2 | .everyCycles => 3

def EntryResult.code : EntryResult → Nat
  | .done => 0 | .donePartial => 1 | .aborted => 2 | .refusedLoaded => 3 | .spanShort => 4

def EngineState.code : EngineState → Nat
  | .off => 0 | .waiting => 1 | .collecting => 2 | .stalled => 3 | .held => 4

def HeldReason.code : HeldReason → Nat
  | .endMark => 0 | .endLast => 1 | .chainBroken => 2 | .aborted => 3

def Judgement.code : Judgement → Nat
  | .achieved => 0 | .outOfTolerance => 1 | .notJudged => 2

def StiffRef.code : StiffRef → Nat
  | .none => 0 | .capturing _ _ => 1 | .valid _ => 2

def GaugeRef.code : GaugeRef → Nat
  | .none => 0 | .lowSet _ _ => 1 | .valid _ _ _ => 2

def Validity.code : Validity → Nat
  | .valid => 0 | .overRange => 1 | .silent => 2 | .noneYet => 3

def NoticeBody.cls : NoticeBody → NoticeClass
  | .alarm _ => .alarm | .state _ _ _ => .state | .gate _ _ _ _ => .gate | .survey _ _ _ _ _ => .survey
  | .plan _ _ _ _ _ => .plan | .store _ _ _ _ _ _ _ _ => .store | .caution _ _ _ _ _ _ => .caution

def NoticeClass.code : NoticeClass → Nat
  | .alarm => 0 | .state => 1 | .gate => 2 | .survey => 3 | .plan => 4 | .store => 5 | .caution => 6

/-- 10 R185: the kind byte of a class's notices. -/
def NoticeClass.kind : NoticeClass → Byte
  | .alarm => 0xE0#8 | .state => 0xE1#8 | .gate => 0xE2#8 | .survey => 0xE3#8 | .plan => 0xE4#8
  | .store => 0xE5#8 | .caution => 0xE6#8

/-! ### Reading codes: `none` is a code the table does not give -/

def bool? : Nat → Option Bool
  | 0 => some false | 1 => some true | _ => none

def consent? : Nat → Option Consent
  | 0 => some .panel | 1 => some .director | 2 => some .both | _ => none

def level? : Nat → Option Level
  | 0 => some .none | 1 => some .notify | 2 => some .hold | 3 => some .unload | 4 => some .dump | _ => none

def cause? : Nat → Option CauseKind
  | 0 => some .estop | 1 => some .sensor | 2 => some .overload | 3 => some .limit | 4 => some .twist
  | 5 => some .tracking | 6 => some .stiffness | 7 => some .crackLoop | 8 => some .aeAlarm
  | 9 => some .deviation | 10 => some .frontendSilent | _ => none

def surveyKind? : Nat → Option SurveyKind
  | 0 => some .zero | 1 => some .static | 2 => some .refLow | 3 => some .refHigh | 4 => some .range | _ => none

def trigger? : Nat → Option TriggerKind
  | 0 => some .immediate | 1 => some .onHold | 2 => some .onGate | 3 => some .everyCycles | _ => none

/-- An index below `n`; any other is BAD_FIELD (10 R182). -/
def index? (n : Nat) (i : Nat) : Option (Fin n) := if h : i < n then some ⟨i, h⟩ else none

/-! ### Settings: each check gives the value to store and whether anything was clamped -/

def clampN (lo hi v : Nat) : Nat × Bool := let c := clampNat lo hi v; (c, !(c == v))
def clampI (lo hi v : Int) : Int × Bool := let c := clampInt lo hi v; (c, !(c == v))

/-- 01 R3: the checks of a segment; `len` is the table's length after the write. -/
def checkSegment (len : Nat) : SegArg → Option (Segment × Bool)
  | .ramp target rate =>
      let t := clampI (-1000000) 1000000 target
      let r := clampN 1 200000 rate
      some (.ramp t.1 r.1, t.2 || r.2)
  | .hold dur mark =>
      let d := clampN 1 max32 dur
      (bool? mark).map fun m => (.hold d.1 m, d.2)
  | .cycle valley peak half count stiff =>
      let v := clampI (-1000000) 1000000 valley
      let k := clampI (-1000000) 1000000 peak
      let h := clampN 16 8192 half
      let n := clampN 1 max32 count
      if v.1 > k.1 then none
      else (bool? stiff).map fun o => (.cycle v.1 k.1 h.1 n.1 o, v.2 || k.2 || h.2 || n.2)
  | .gate id need =>
      if id = 0 then none else (consent? need).map fun c => (.gate id c, false)
  | .jump target count =>
      let n := clampN 0 65535 count
      if target < len then some (.jump target n.1, n.2) else none
  | .unknown _ => none

/-- 02 R32, first three checks: codes and indices, clamping, and the relations on the clamped values. -/
def checkActuator (a : ActuatorArg) : Option (Fin 8 × ActCfg × Bool) :=
  match index? 8 a.index, index? 4 a.frame, bool? a.use, bool? a.polarity with
  | some i, some fr, some use, some inv =>
      let share := clampN 0 2000 a.share
      let fmin := clampI (-1000000) 1000000 a.fmin
      let fmax := clampI (-1000000) 1000000 a.fmax
      let trip := clampI 1 1000000 a.trip
      let dmin := clampI (-500000) 500000 a.dmin
      let dmax := clampI (-500000) 500000 a.dmax
      let kp := clampN 0 65535 a.kp
      let ki := clampN 0 65535 a.ki
      let rest := clampI (-1000000) 1000000 a.rest
      let rate := clampN 1 200000 a.unloadRate
      let tol := clampN 0 100000 a.peakTol
      if fmin.1 ≤ fmax.1 ∧ dmin.1 ≤ dmax.1 then
        some (i,
          { enabled := use, frame := fr, share := share.1, fmin := fmin.1, fmax := fmax.1, trip := trip.1,
            dmin := dmin.1, dmax := dmax.1, kp := kp.1, ki := ki.1, inverted := inv, rest := rest.1,
            unloadRate := rate.1, peakTol := tol.1 },
          share.2 || fmin.2 || fmax.2 || trip.2 || dmin.2 || dmax.2 || kp.2 || ki.2 || rest.2 || rate.2 || tol.2)
      else none
  | _, _, _, _ => none

/-- 03 R69. -/
def checkCycle (a : CycleArg) : Option (CycleCfg × Bool) :=
  let tracking := clampN 1 255 a.tracking
  let stroke := clampN 1 100000 a.stroke
  let capture := clampN 1 255 a.capture
  let drop := clampN 1 999 a.drop
  let dropRun := clampN 1 255 a.dropRun
  let dec := clampN 0 65535 a.decimation
  (bool? a.exceptions).map fun e =>
    ({ tracking := tracking.1, stroke := stroke.1, capture := capture.1, drop := drop.1, dropRun := dropRun.1,
       decimation := dec.1, exceptions := e },
     tracking.2 || stroke.2 || capture.2 || drop.2 || dropRun.2 || dec.2)

/-- The settings of MAP GAUGE after the first two checks of 04 R77. -/
structure GaugeSet where
  gauge : Fin 256
  input : Fin 16 × Fin 16
  bridge : Nat
  gfm : Nat
  watch : Bool
  band : Nat
  confirm : Nat
  clamped : Bool
deriving DecidableEq, Repr

def checkGauge (a : GaugeArg) : Option GaugeSet :=
  match index? 256 a.gauge, index? 16 a.module, index? 16 a.input, bool? a.watch with
  | some g, some m, some i, some w =>
      if a.bridge = 4 ∨ a.bridge = 2 ∨ a.bridge = 1 then
        let gfm := clampN 1000 4000 a.gfm
        let band := clampN 1 2000000 a.band
        let confirm := clampN 1 255 a.confirm
        some { gauge := g, input := (m, i), bridge := a.bridge, gfm := gfm.1, watch := w, band := band.1,
               confirm := confirm.1, clamped := gfm.2 || band.2 || confirm.2 }
      else none
  | _, _, _, _ => none

/-- 04 R82: distinct gauges 0..255, at most 64 of them. -/
def checkGroup (gauges : List Nat) : Option (List (Fin 256)) :=
  let l := gauges.filterMap (index? 256)
  if l.length = gauges.length ∧ gauges.length ≤ 64 ∧ l.Nodup then some l else none

/-- 05 R93, first three checks: the entry with its engine-written fields cleared. -/
def checkPlanEntry (a : PlanArg) : Option (Fin 64 × PlanEntry × Bool) :=
  match index? 64 a.index, surveyKind? a.kind, trigger? a.trigger, index? 32 a.group, index? 64 a.next with
  | some i, some kind, some trig, some group, some next =>
      if (kind = .range) ≠ (trig = .everyCycles) then none
      else
        let scans := clampN 1 256 a.scans
        let settle := clampN 0 65535 a.settle
        let interval := clampN 1 1000000 a.interval
        some (i,
          { kind := kind, group := group, scans := scans.1, trigger := trig, settle := settle.1,
            interval := interval.1, next := next, holdMark := a.marks.testBit 0, setEnd := a.marks.testBit 1,
            notify := a.marks.testBit 2, complete := false, result := none, setNo := none, setLast := none },
          scans.2 || settle.2 || interval.2)
  | _, _, _, _, _ => none

/-- The break levels a loop may have (07 R134). -/
def breakLevel? (n : Nat) : Option Level :=
  match level? n with
  | some .none => none
  | l => l

/-- The levels a cause kind allows (08 R149); CRACK_LOOP stores none (08 R155). -/
def allowedLevel (k : CauseKind) (l : Level) : Bool :=
  match k with
  | .estop | .sensor => l == .dump
  | .overload => l == .unload || l == .dump
  | .crackLoop => true
  | _ => !(l == .none)

/-- The kinds a mask may be set for (08 R149). -/
def maskable : CauseKind → Bool
  | .estop | .sensor | .overload => false
  | _ => true

end Sys2Proof.Machine
end

