-- ==== Sys2Proof/Machine/Flags.lean ====
section
/-! DEFINITION. The flags and levels that follow from other state: what one block reads of another. -/

namespace Sys2Proof.Machine

/-! ### Time (09) -/

/-- The first period of hundredth `h` of a second: ceil(h × 1,024 / 100) (09 R170). -/
def firstPeriod (h : Nat) : Nat := (h * 1024 + 99) / 100

/-- Whether phase `q` is the first period of a hundredth (09 R170). -/
def beginsHundredth (q : Nat) : Bool := q == firstPeriod (q * 100 / 1024)

/-- The phase after one more period: after 1,023 it becomes 0 (09 R169). -/
def nextPhase (q : Nat) : Nat := (q + 1) % 1024

/-- The load-on clock's run state: RUNNING while the sequencer is RUNNING or GATED (09 R172). -/
def clockRuns (s : State) : Bool :=
  match s.lsq.state with
  | .running | .gated => true
  | _ => false

/-! ### Sequencer (01) -/

/-- P = round(P_fine / 1024) (01 R9). -/
def programLoad (s : State) : Int := roundDiv s.lsq.pFine 1024

def Claims.any (c : Claims) : Bool := c.director || c.panel || c.store || c.protection

/-- The claim set as the bits of 11 R197. -/
def Claims.code (c : Claims) : Nat := bits [c.director, c.panel, c.store, c.protection]

def Segment.isCycle : Segment → Bool
  | .cycle .. => true
  | _ => false

/-- Whether the segment at the position is a CYCLE: the working copy while it runs, else the table entry
(01 R26, R28; log 18). -/
def cycleAtPosition (s : State) : Bool :=
  match s.lsq.running with
  | some r => r.seg.isCycle
  | none => (s.lsq.prog[s.lsq.pos.index]?).elim false (fun e => e.seg.isCycle)

/-- A HOLD with its survey mark on is in force from its entry until it ends (05 R101). -/
def holdInForce (s : State) : Bool :=
  match s.lsq.running with
  | some { seg := .hold _ true, .. } => true
  | _ => false

/-- A gate is in force while the sequencer is GATED, or PAUSED with resume state GATED (05 R101). -/
def gateInForce (s : State) : Bool :=
  match s.lsq.state with
  | .gated | .paused .gated => true
  | _ => false

def isPaused (s : State) : Bool :=
  match s.lsq.state with
  | .paused _ => true
  | _ => false

/-- IDLE, STOPPED or DONE (01 R6, 02 R32). -/
def seqResting (s : State) : Bool :=
  match s.lsq.state with
  | .idle | .stopped | .done => true
  | _ => false

/-! ### Servo array (02) -/

/-- The servo is enabled in every protection state but SAFE and DUMPED (02 R39). -/
def PState.servo : PState → Bool
  | .safe | .dumped => false
  | _ => true

/-- The SENSOR condition: 8 or more missing samples of an ENABLED actuator (02 R37). -/
def Actuator.sensor (a : Actuator) : Bool := a.cfg.enabled && decide (8 ≤ a.missing)

/-- An actuator CAU and Pm count: ENABLED with share above 0 (02 R51, 03 R56). -/
def Actuator.counts (a : Actuator) : Bool := a.cfg.enabled && decide (0 < a.cfg.share)

/-- Clamp into the actuator's window (02 R40). -/
def ActCfg.window (c : ActCfg) (f : Int) : Int := clampInt c.fmin c.fmax f

/-! ### Strain (04) -/

/-- The gauge is mapped to an input of module `m`. -/
def Gauge.onModule (g : Gauge) (m : Fin 16) : Bool :=
  match g.mapping with
  | some (m', _) => m' == m
  | none => false

/-- A module is in use while at least one gauge is mapped to one of its inputs (04 R72). -/
def moduleInUse (s : State) (m : Fin 16) : Bool := s.ssu.gauges.cells.any (fun g => g.onModule m)

/-- The gauges mapped to a module, in rising order. -/
def gaugesOf (s : State) (m : Fin 16) : List (Fin 256) := (allFin 256).filter (fun g => (s.gauge g).onModule m)

/-- A figure of the latest value as far as it is valid (04 R79). -/
def Gauge.latest (g : Gauge) (x : Int) : Option Int := if g.validity = .valid then some x else none

/-- The deviation check is in force: mapped, watched, reference VALID (04 R86). -/
def Gauge.checked (g : Gauge) : Bool :=
  g.mapping.isSome && g.watch && (match g.ref with | .valid .. => true | _ => false)

/-! ### Surveys (05) -/

def CollGauge.satisfied (scans : Nat) (g : CollGauge) : Bool := decide (scans ≤ g.arrivals)

/-- Every gauge satisfied, or refused for load: the collection is at its end (05 R104, R105).  A RANGE collection
ends at its window's completion instead (05 R107). -/
def Collection.finished (c : Collection) : Bool :=
  c.refused || (!(c.kind == .range) && c.gauges.all (fun g => g.satisfied c.scans))

/-- The plan collector has a finished collection to end. -/
def planFinished (v : Sve) : Bool :=
  v.state == .collecting && (match v.collector with | some c => c.finished | none => false)

/-- That collection is a ZERO refused for load, which ends with no record (05 R105). -/
def planRefused (v : Sve) : Bool :=
  planFinished v && (match v.collector with | some c => c.refused | none => false)

/-- The current entry is in settle (05 R91). -/
def inSettle (v : Sve) : Bool :=
  v.state == .waiting && (match v.trigger with | .segment _ _ => true | _ => false)

/-- In settle, COLLECTING or STALLED (05 R102, R110). -/
def entryActive (v : Sve) : Bool := inSettle v || v.state == .collecting || v.state == .stalled

/-- 05 R102: whether an entry triggered by the HOLD now running (`gate` false) or the gate now in force keeps its
end waiting. -/
def surveyWaits (v : Sve) (gate : Bool) : Bool :=
  entryActive v && (match v.trigger with | .segment g _ => g == gate | _ => false)

/-- A survey collector is gathering the gauge (04 R77). -/
def gathering (s : State) (g : Fin 256) : Bool :=
  let holds (c : Collection) : Bool := c.gauges.any (fun x => x.gauge == g)
  (s.sve.state == .collecting && (match s.sve.collector with | some c => holds c | none => false))
    || (match s.sve.work with | .collecting c => holds c | _ => false)

/-! ### Store (06) -/

def RecordBody.isSnap : RecordBody → Bool
  | .snapshot _ => true
  | _ => false

def fill (s : State) : Nat := s.cst.records.length
def snapCount (s : State) : Nat := s.cst.records.countP (fun r => r.body.isSnap)
def otherCount (s : State) : Nat := s.cst.records.countP (fun r => !r.body.isSnap)

/-- 06 R119: 256 places, of which records other than SNAPSHOT take at most 252. -/
def hasRoom (s : State) (b : RecordBody) : Bool :=
  if b.isSnap then decide (fill s < 256) else decide (fill s < 256) && decide (otherCount s < 252)

/-- 06 R130: free places for a SNAPSHOT and for a record of another kind, by R119. -/
def freeSnap (s : State) : Nat := 256 - fill s
def freeOther (s : State) : Nat := min (256 - fill s) (252 - otherCount s)

def oldestNo (s : State) : Option Nat := s.cst.records.head?.map (·.number)
def newestNo (s : State) : Option Nat := s.cst.records.getLast?.map (·.number)

/-! ### Crack monitor (07) -/

/-- The crack front-end is in use while at least one loop is USED (07 R132). -/
def frontendInUse (s : State) : Bool := s.ckm.loops.cells.any (·.used)

/-- The USED channels at or above their warning thresholds (07 R145, R146). -/
def channelsAbove (s : State) : List Nat :=
  ((allFin 8).filter (fun i => (s.chan i).used && decide ((s.chan i).warn ≤ (s.chan i).sum))).map (·.val)

/-! ### Protection (08) -/

def Level.rank (l : Level) : Nat := l.code

def Level.max (a b : Level) : Level := if a.rank < b.rank then b else a

/-- The highest break level among the latched loops (08 R153, R154), absent when none is latched. -/
def loopsLevel (s : State) (latched : List Nat) : Option Level :=
  let ls := (allFin 32).filter (fun i => latched.contains i.val)
  if ls.isEmpty then none else some (ls.foldl (fun l i => l.max (s.loop i).level) .none)

/-- The level of a latched cause; for CRACK_LOOP that of its loops (08 R154). -/
def causeLevel (s : State) (k : CauseKind) : Option Level :=
  match k with
  | .crackLoop => loopsLevel s (s.cause k).latched
  | _ => (s.cause k).level

/-- A cause is latched while its latched subject set is not empty (08 R148). -/
def Cause.isLatched (c : Cause) : Bool := !c.latched.isEmpty
def Cause.isActive (c : Cause) : Bool := !c.active.isEmpty

/-- 08 R154: the highest level among the causes that are latched and ENABLED; NONE when there is none. -/
def demandedLevel (s : State) : Level :=
  allCauses.foldl
    (fun l k =>
      let c := s.cause k
      if c.isLatched && !c.masked then l.max ((causeLevel s k).getD .none) else l)
    .none

/-- 08 R157: the state PRU moves to from `p` at the demanded level; none where it stays. -/
def moveFor (p : PState) (l : Level) : Option PState :=
  match l, p with
  | .hold, .armed => some .holding
  | .unload, .armed => some .unloading
  | .unload, .holding => some .unloading
  | .dump, .armed => some .dumped
  | .dump, .holding => some .dumped
  | .dump, .unloading => some .dumped
  | .dump, .unloaded => some .dumped
  | _, _ => none

/-- By severity the states stand ARMED < HOLDING < UNLOADING = UNLOADED < DUMPED; SAFE stands apart (08 R156). -/
def PState.severity : PState → Nat
  | .safe => 0 | .armed => 1 | .holding => 2 | .unloading => 3 | .unloaded => 3 | .dumped => 4

end Sys2Proof.Machine
end

