-- ==== Sys2Proof/Machine/Layouts.lean ====
section
/-! DEFINITION. The byte layouts of 11: segments, actuator settings, gauge records, plan entries, cause entries (R199),
notices (R200) and store records (R201). -/

namespace Sys2Proof.Machine

/-- Fill a structure up to `n` bytes; bytes marked unused are sent as 0 (11 R196). -/
def padTo (n : Nat) (l : List Byte) : List Byte := l ++ List.replicate (n - l.length) 0#8

/-! ### Central structures (11 R199) -/

/-- The 16 bytes of a segment. -/
def encSegment : Segment → List Byte
  | .ramp t r => padTo 16 (u8 0 ++ i32 t ++ u32 r)
  | .hold d m => padTo 16 (u8 1 ++ u32 d ++ flag m)
  | .cycle v k h n o => u8 2 ++ i32 v ++ i32 k ++ u16 h ++ u32 n ++ flag o
  | .gate i c => padTo 16 (u8 3 ++ u8 i ++ u8 c.code)
  | .jump t n => padTo 16 (u8 4 ++ u8 t ++ u8 0 ++ u16 n)

/-- The 42 bytes of the actuator settings. -/
def encActuator (i : Fin 8) (c : ActCfg) : List Byte :=
  u8 i.val ++ flag c.enabled ++ u8 c.frame.val ++ flag c.inverted ++ u16 c.share ++ i32 c.fmin ++ i32 c.fmax
    ++ i32 c.trip ++ i32 c.dmin ++ i32 c.dmax ++ u16 c.kp ++ u16 c.ki ++ i32 c.rest ++ u32 c.unloadRate
    ++ u32 c.peakTol

/-- A frame record with its twist count (02 R34). -/
def encFrame (i : Fin 4) (f : Frame) : List Byte := u8 i.val ++ u32 f.limit ++ u16 f.confirm ++ u16 f.count

/-- The 14 bytes of the cycle accounting settings (11 R198). -/
def encCycleCfg (c : CycleCfg) : List Byte :=
  u8 c.tracking ++ u32 c.stroke ++ u8 c.capture ++ u16 c.drop ++ u8 c.dropRun ++ u32 c.decimation
    ++ flag c.exceptions

/-- A stiffness reference as READ CYCLES and the reference requests carry it (03 R70, R65; log 13): state, count u8
and sum u64 while CAPTURING, value u32 while VALID. -/
def encStiffRef (r : StiffRef) : List Byte :=
  u8 r.code ++
    (match r with
     | .capturing n sum => flag true ++ u8 n ++ u64 sum
     | _ => flag false ++ u8 0 ++ u64 0) ++
    present? 4 (match r with | .valid v => some v | _ => none)

/-- The 50 bytes of a gauge record.  The stored ratio and strain are sent while VALID; an invalid one is sent as absent,
beside the validity code (11 R196; log 37). -/
def encGauge (i : Fin 256) (g : Gauge) : List Byte :=
  u8 i.val
    ++ u8? (g.mapping.map (·.1.val)) ++ u8? (g.mapping.map (·.2.val))
    ++ u8 g.bridge ++ u16 g.gfm ++ flag g.watch ++ u8 g.confirm ++ u32 g.band ++ i32 g.zero
    ++ i32? (g.latest g.ratio) ++ i32? (g.latest g.strain) ++ u32 g.at_ ++ u8 g.validity.code ++ u8 g.ref.code ++ u8 g.devRun
    ++ u8 (bits [g.devHolds, g.devFlag])
    ++ (match g.ref with
        | .none => absentInt 4 ++ absentInt 4 ++ absentInt 6
        | .lowSet p e => i32 p ++ i32 e ++ absentInt 6
        | .valid p e c => i32 p ++ i32 e ++ i48 c)
    ++ i32? g.lastDev

/-- The 14 bytes of a plan entry. -/
def encPlanEntry (i : Fin 64) (e : PlanEntry) : List Byte :=
  u8 i.val ++ u8 e.kind.code ++ u8 e.group.val ++ u8 e.trigger.code ++ u16 e.scans ++ u16 e.settle
    ++ u32 e.interval ++ u8 e.next.val ++ u8 (bits [e.holdMark, e.setEnd, e.notify])

/-- The bytes of a cause's subject set (11 R197). -/
def subjectLen : CauseKind → Nat
  | .estop => 0
  | .crackLoop => 4
  | .deviation => 32
  | .frontendSilent => 4
  | _ => 1

/-- A cause entry; `second` is its second bitmap, the active subjects except in TAKE ALARMS. -/
def encCause (k : CauseKind) (c : Cause) (level : Option Level) (second : List Nat) : List Byte :=
  u8 k.code ++ u8? (level.map (·.code)) ++ flag c.masked ++ u8 (bits [c.isLatched, c.isActive])
    ++ u32 (c.stamp.getD 0) ++ u8 (subjectLen k) ++ bitmap (subjectLen k) c.latched
    ++ bitmap (subjectLen k) second

/-! ### Store records (11 R201) -/

def encSource : Source → SurveyKind → List Byte
  | .plan e _, k => u8 0 ++ u8 e.val ++ u8 k.code ++ u8 0
  | .demand l t, k => u8 1 ++ u8 (linkCode l) ++ u8 k.code ++ [t]

def Source.setNo : Source → Nat
  | .plan _ n => n
  | .demand _ _ => 0

def outcomeCode : Option RefOutcome → Nat
  | none => 0
  | some (.formed _) => 1
  | some .spanShort => 2
  | some .notLowSet => 3

def encSurveyGauge (g : SurveyGauge) : List Byte :=
  let oc := outcomeCode g.outcome
  u8 g.gauge.val
    ++ u8 (bits [g.average.isSome, g.devFlag, g.lowHanded, false, oc.testBit 0, oc.testBit 1])
    ++ u16 g.valid ++ i32? g.average ++ i48 g.extra

def encSurvey (b : SurveyBody) : List Byte :=
  encSource b.source b.kind ++ u16 b.source.setNo ++ u8 b.group.val ++ u8 b.gauges.length ++ u8 b.result.code
    ++ u8 0 ++ u16 b.scans ++ u32 b.start ++ u32 b.stop ++ u32 b.periods ++ i32 b.pmAvg
    ++ (b.gauges.map encSurveyGauge).flatten

def encRangeGauge (g : RangeGauge) : List Byte :=
  u8 g.gauge.val ++ u8 (bits [false, g.devFlag]) ++ u16 g.valid ++ i32? g.hi ++ i32? g.lo

def encRange (b : RangeBody) : List Byte :=
  encSource b.source .range ++ u16 b.source.setNo ++ u8 b.group.val ++ u8 b.gauges.length ++ u8 b.result.code
    ++ u8 0 ++ u32 b.start ++ u32 b.stop ++ u32 b.periods ++ u32 b.total ++ i32 b.pmHi ++ i32 b.pmLo
    ++ (b.gauges.map encRangeGauge).flatten

/-- The reference figure of a CYCLE record: the value when VALID, the count when CAPTURING, 0 when NONE. -/
def StiffRef.figure : StiffRef → Nat
  | .none => 0
  | .capturing n _ => n
  | .valid v => v

def encCycleAct (a : CycleAct) : List Byte :=
  u8 a.act.val ++ u8 (bits [a.inTol.isSome, a.inTol.getD false, a.stiffness.isSome]) ++ u8 a.ref.code ++ u8 0
    ++ i32 a.peakSet ++ i32 a.valleySet ++ i32? (a.peak.map (·.force)) ++ i32? (a.peak.map (·.disp))
    ++ i32? (a.valley.map (·.force)) ++ i32? (a.valley.map (·.disp)) ++ u32 (a.stiffness.getD 0)
    ++ u32 a.ref.figure

def encCycle (b : CycleBody) : List Byte :=
  u8 (bits [b.decimation, b.exception]) ++ flag b.counted ++ u8 b.judgement.code ++ flag b.interrupted
    ++ u32 b.total ++ u8 b.index ++ u8 b.acts.length ++ u8 0 ++ u8 0 ++ u32 b.cyclesDone
    ++ (b.acts.map encCycleAct).flatten

def encSnapAct (a : SnapAct) : List Byte :=
  u8 a.act.val ++ u8 (bits [a.overload, a.limit, a.sensor]) ++ u8 a.missing ++ u8 0 ++ i32 a.force ++ i32 a.disp
    ++ i32? a.setpoint ++ i16 a.valve

def encSnap (b : SnapBody) : List Byte :=
  u8 b.entered.code ++ u8 b.left.code ++ u8 b.demand.code ++ flag b.caution ++ u8 b.seq.code
    ++ u8? b.seq.resumeCode? ++ u8 b.index ++ u8 b.claims.code ++ u8 (bits [b.cyclesDone.isSome, b.line])
    ++ u8 0 ++ u8 0 ++ u8 0 ++ u32 (b.cyclesDone.getD 0) ++ i32 b.load ++ i32 b.pm ++ u32 b.total
    ++ listOf (b.causes.map fun c => encCause c.kind c.cause c.level c.cause.active)
    ++ listOf (b.acts.map encSnapAct)

def RecordBody.kindCode : RecordBody → Nat
  | .survey _ => 0 | .range _ => 1 | .cycle _ => 2 | .snapshot _ => 3

def encBody : RecordBody → List Byte
  | .survey b => encSurvey b
  | .range b => encRange b
  | .cycle b => encCycle b
  | .snapshot b => encSnap b

/-- A record: the 12-byte common part, which counts the whole record, and the body. -/
def encRecord (r : Record) : List Byte :=
  let body := encBody r.body
  u16 (12 + body.length) ++ u8 r.body.kindCode ++ u8 0 ++ u32 r.number ++ u32 r.stamp ++ body

/-! ### Notices (11 R200) -/

def encNoticeBody : NoticeBody → List Byte
  | .alarm b =>
      u8 b.after.code ++ u8 b.before.code ++ u8 b.demand.code ++ flag b.line ++ u8 (bits [b.lost])
        ++ u32 (number? b.firstSnap) ++ u32 (number? b.lastSnap)
        ++ listOf (b.causes.map fun c => u8 c.1.code ++ u8 (subjectLen c.1) ++ bitmap (subjectLen c.1) c.2)
  | .state seq pru index => u8 seq.code ++ u8? seq.resumeCode? ++ u8 pru.code ++ u8 index
  | .gate left id index need => flag left ++ u8 id ++ u8 index ++ u8 need.code
  | .survey src kind result setNo recNo =>
      encSource src kind ++ u8 result.code ++ u16 setNo ++ u32 recNo
  | .plan broken aborted openSet current setNo =>
      u8 (bits [broken, aborted, openSet]) ++ u8? (current.map (·.val)) ++ u16 setNo
  | .store fill snaps high low oldest newest claim stalls =>
      u16 fill ++ u16 snaps ++ u16 high ++ u16 low ++ u32 oldest ++ u32 newest ++ flag claim ++ u8 stalls
  | .caution on time chan sum warn above =>
      flag on ++ u32 time ++ u8? (chan.map (·.val)) ++ u32 sum ++ u32 warn ++ bitmap 1 above

/-- The frame of a notice whose sending begins (10 R185): tag 0; the header takes the lost-notice flag as it stands
then, the merge count and the stamp. -/
def noticeFrame (lost : Bool) (n : Notice) : FrameOut :=
  { kind := n.body.cls.kind, tag := 0#8
    payload := flag lost ++ u8 n.merge ++ u32 n.stamp ++ encNoticeBody n.body }

/-- The frame of a reply (10 R181): the request's kind plus 0x80, its tag, the status and the content. -/
def replyFrame (kind tag : Byte) (st : Status) (content : List Byte) : FrameOut :=
  { kind := kind + 0x80#8, tag := tag, payload := st.code :: content }

end Sys2Proof.Machine
end

