-- ==== Sys2Proof/Machine/Links.lean ====
section
/-! DEFINITION. The Link Interface's queues (10): raising and merging notices, placing replies, deferred slots, and the
transmitter. -/

namespace Sys2Proof.Machine

/-! ### Notice queues (10 R187 to R189) -/

def Notice.isAlarm (n : Notice) : Bool := n.body.cls == .alarm
def Notice.isState (n : Notice) : Bool := n.body.cls == .state

/-- The places a class other than ALARM and STATE may take (10 R187). -/
def ordinaryNotices (q : List Notice) : Nat := q.countP (fun n => !n.isAlarm && !n.isState)

/-- 10 R188: every cause kind in either notice, each with the union of its subjects, in kind order. -/
def mergeCauses (a b : List (CauseKind × List Nat)) : List (CauseKind × List Nat) :=
  allCauses.filterMap fun k =>
    let subjects (l : List (CauseKind × List Nat)) : List Nat :=
      (l.filter (fun c => c.1 == k)).foldl (fun acc c => unionNum c.2 acc) []
    if a.any (fun c => c.1 == k) || b.any (fun c => c.1 == k) then
      some (k, unionNum (subjects a) (subjects b))
    else none

/-- 10 R188: the waiting ALARM notice after `new` is merged into it. -/
def mergeAlarm (old new : AlarmBody) : AlarmBody :=
  { after := new.after, before := old.before, demand := new.demand, line := new.line
    lost := old.lost || new.lost
    firstSnap := old.firstSnap <|> new.firstSnap
    lastSnap := new.lastSnap <|> old.lastSnap
    causes := mergeCauses old.causes new.causes }

/-- Merge counts add up and stop at 255 (10 R188, R189). -/
def addMerge (a b : Nat) : Nat := min 255 (a + b)

/-- Merge an ALARM into, or replace the content of, the one waiting notice of its class. -/
def mergeInto (new : Notice) : List Notice → List Notice
  | [] => []
  | n :: ns =>
      match n.body, new.body with
      | .alarm a, .alarm b =>
          { body := .alarm (mergeAlarm a b), stamp := new.stamp, merge := addMerge n.merge new.merge } :: ns
      | .state .., .state .. => { new with merge := addMerge n.merge new.merge } :: ns
      | _, _ => n :: mergeInto new ns

/-- A notice offered to a subscribed link joins, merges, replaces or is lost (10 R187 to R190). -/
def queueNotice (n : Notice) (k : LinkSt) : LinkSt :=
  match n.body.cls with
  | .alarm =>
      if k.notices.any Notice.isAlarm then { k with notices := mergeInto n k.notices }
      else { k with notices := k.notices ++ [n] }
  | .state =>
      if k.notices.any Notice.isState then { k with notices := mergeInto n k.notices }
      else { k with notices := k.notices ++ [n] }
  | _ =>
      if ordinaryNotices k.notices < 14 then { k with notices := k.notices ++ [n] }
      else { k with lost := true }

/-- A link whose subscription does not take the class gets nothing, and no loss is recorded (10 R185). -/
def offerNotice (n : Notice) (k : LinkSt) : LinkSt :=
  if k.subs.getLsbD n.body.cls.code then queueNotice n k else k

/-- Raise a notice on both links, stamped with the hall time of its event (10 R185). -/
def raise (b : NoticeBody) (s : State) : State :=
  let n : Notice := { body := b, stamp := s.now, merge := 1 }
  (s.updLink .director (offerNotice n)).updLink .panel (offerNotice n)

/-! ### Replies and deferred slots (10 R180, R181, R191, R192) -/

/-- The most replies a link keeps (10 R176). -/
def replyPlaces : Nat := 4

/-- The oldest READY reply joins the reply queue while it holds fewer than `cap`, and its slot becomes FREE
(10 R192). -/
def joinOne (cap : Nat) (k : LinkSt) : LinkSt :=
  match k.readyOrder with
  | [] => k
  | i :: rest =>
      if k.replies.length < cap then
        match k.slots.get i with
        | .ready r =>
            { k with replies := k.replies ++ [r], slots := k.slots.set i .free, readyOrder := rest }
        | _ => { k with readyOrder := rest }
      else k

/-- Two slots at most, joined in the order they became READY. -/
def joinReady (cap : Nat) (k : LinkSt) : LinkSt := joinOne cap (joinOne cap k)

/-- Place a reply at the back of the link's reply queue (10 R180). -/
def placeReply (f : FrameOut) (k : LinkSt) : LinkSt := { k with replies := k.replies ++ [f] }

/-- The reply of the request being taken has its place: a deferred reply that the handling decided joins ahead of it
if that leaves room, and otherwise waits READY (10 R176, R180, R192; log 36). -/
def placeOwn (f : FrameOut) (k : LinkSt) : LinkSt := placeReply f (joinReady (replyPlaces - 1) k)

/-- A WAITING slot receives its outcome: the reply is formed and the slot becomes READY (10 R192); the reply joins the
queue at the end of the event, if there is a place.  `st` gets whether the request's scan count was clamped. -/
def decideSlot (i : Fin 2) (st : Bool → Status) (content : List Byte) (k : LinkSt) : LinkSt :=
  match k.slots.get i with
  | .waiting kind tag clamped _ =>
      { k with slots := k.slots.set i (.ready (replyFrame kind tag (st clamped) content))
               readyOrder := k.readyOrder ++ [i] }
  | _ => k

/-- The lowest FREE slot (10 R191; log 19). -/
def freeSlot (k : LinkSt) : Option (Fin 2) := (allFin 2).find? (fun i => k.slots.get i == .free)

/-! ### The transmitter (10 R184) -/

/-- An IDLE transmitter begins the oldest reply, else the oldest notice, else stays IDLE.  A reply that leaves frees
a place, which a READY deferred reply takes first (R192); a notice that leaves takes the lost-notice flag with it and
clears it (R190). -/
def startSending (k : LinkSt) : LinkSt :=
  match k.tx with
  | some _ => k
  | none =>
      match k.replies with
      | r :: rs => joinReady replyPlaces { k with tx := some r, replies := rs }
      | [] =>
          match k.notices with
          | n :: ns => { k with tx := some (noticeFrame k.lost n), notices := ns, lost := false }
          | [] => k

/-- The end of an event on a link: deferred replies that are READY join while there is a place, then the transmitter
takes up the next frame. -/
def serveLink (k : LinkSt) : LinkSt := startSending (joinReady replyPlaces k)

/-- The transmitters take up what the event queued (log 7). -/
def service (s : State) : State := (s.updLink .director serveLink).updLink .panel serveLink

/-- The frame being sent is finished. -/
def finishFrame (k : LinkSt) : LinkSt := { k with tx := none }

/-- The frame being sent on the Director link is the OK to a PART RESET (10 R195; 11 R198: kind 0x04). -/
def sendingResetOk (s : State) : Bool :=
  match s.lki.director.tx with
  | some f => f.kind == 0x84#8 && f.payload == [Status.ok.code]
  | none => false

/-- A discard count increases by one and stops at 65,535 (10 R179). -/
def countUp (n : Nat) : Nat := if n < 65535 then n + 1 else n

/-! ### The end of an event -/

/-- An event that cannot run the survey plan ends in a next state. -/
def finish (s : State) : Host.Outcome State Fault Refusal := .next (service s)

/-- An event that may run the survey plan stops where a chain of completions never ends (log 5). -/
def finishPlan (s : State) : Host.Outcome State Fault Refusal :=
  if s.sve.endless then .fault .surveyChainEndless else finish s

end Sys2Proof.Machine
end

