-- ==== Sys2Proof/Machine/Claims.lean ====
section
/-! DEFINITION. The claim set and the sequencer's state (01 R24 to R26): changes of state with their STATE notices,
placing and releasing claims, and the moves the Protection Unit makes. -/

namespace Sys2Proof.Machine

/-- A STATE notice as things stand (01 R29). -/
def raiseState (s : State) : State := raise (.state s.lsq.state s.pru.state s.lsq.pos.index) s

/-- The sequencer becomes `st`; a change raises a STATE notice (01 R29). -/
def seqBecome (st : SeqState) (s : State) : State :=
  if s.lsq.state = st then s else raiseState (s.updLsq fun q => { q with state := st })

/-- The claimants (01 R24). -/
inductive Claimant where
  | director | panel | store | protection
deriving DecidableEq, Repr

def Claims.has (c : Claims) : Claimant → Bool
  | .director => c.director
  | .panel => c.panel
  | .store => c.store
  | .protection => c.protection

def Claims.put (c : Claims) (who : Claimant) (v : Bool) : Claims :=
  match who with
  | .director => { c with director := v }
  | .panel => { c with panel := v }
  | .store => { c with store := v }
  | .protection => { c with protection := v }

def setClaim (who : Claimant) (v : Bool) (s : State) : State :=
  s.updLsq fun q => { q with claims := q.claims.put who v }

/-- 01 R25: a claim placed in ALIGNING, RUNNING or GATED makes the state PAUSED at once; in any other state it is
recorded. -/
def placeClaim (who : Claimant) (s : State) : State :=
  let s := setClaim who true s
  match s.lsq.state with
  | .aligning => seqBecome (.paused .aligning) s
  | .running => seqBecome (.paused .running) s
  | .gated => seqBecome (.paused .gated) s
  | _ => s

/-- The state a resume state names. -/
def Resume.state : Resume → SeqState
  | .aligning => .aligning
  | .running => .running
  | .gated => .gated

/-- 01 R25: a release that leaves the set empty while PAUSED returns the state to the resume state at once. -/
def releaseClaim (who : Claimant) (s : State) : State :=
  let s := setClaim who false s
  match s.lsq.state with
  | .paused r => if s.lsq.claims.any then s else seqBecome r.state s
  | _ => s

def claimantOf : Link → Claimant
  | .director => .director
  | .panel => .panel

/-- Both consent slots cleared (01 R21, R23). -/
def clearConsents (s : State) : State :=
  s.updLsq fun q => { q with consentPanel := false, consentDirector := false }

/-- 01 R26: whether the sequencer was on its way through the program when the unload began. -/
def underWay (s : State) : Bool :=
  match s.lsq.state with
  | .aligning | .running | .paused _ | .gated => true
  | _ => false

/-- 01 R26: the position saved as restart position, with cycles done only for a CYCLE. -/
def saveRestart (s : State) : State :=
  if underWay s then
    let cycles := if cycleAtPosition s then some s.lsq.pos.cyclesDone else none
    s.updLsq fun q => { q with restart := some { index := q.pos.index, cycles := cycles } }
  else s

/-- The program is given up: no segment runs and both consent slots are cleared (01 R26; log 22). -/
def abandonProgram (s : State) : State :=
  clearConsents (s.updLsq fun q => { q with running := none })

/-- PRU enters UNLOADING (01 R26). -/
def seqUnload (s : State) : State := seqBecome .unloading (abandonProgram (saveRestart s))

/-- PRU reaches UNLOADED (01 R26). -/
def seqUnloaded (s : State) : State := seqBecome .stopped s

/-- PRU enters DUMPED (01 R26): no restart position of its own. -/
def seqDump (s : State) : State := seqBecome .stopped (abandonProgram s)

end Sys2Proof.Machine
end

