-- ==== Sys2Proof/Machine/Store.lean ====
section
/-! DEFINITION. The Capture Store's own operations (06): entering a record, offers, stalls, the STORE claim and the
STORE notice. -/

namespace Sys2Proof.Machine

/-- After 4,294,967,295 the next record number becomes 1 (06 R120). -/
def nextRecordNo (n : Nat) : Nat := if n = max32 then 1 else n + 1

/-- 06 R126: if the notice is armed and the fill is at or above the high mark, it is raised and disarmed. -/
def checkHighMark (s : State) : State :=
  if s.cst.armed && decide (s.cst.high ≤ fill s) then
    let s' := raise
      (.store (fill s) (snapCount s) s.cst.high s.cst.low (number? (oldestNo s)) (number? (newestNo s))
        s.lsq.claims.store s.cst.stalls.length) s
    s'.updCst fun c => { c with armed := false }
  else s

/-- 06 R126: at or below the low mark the notice is armed again. -/
def checkLowMark (s : State) : State :=
  if fill s ≤ s.cst.low then s.updCst fun c => { c with armed := true } else s

/-- 06 R120: a record enters at the back with the next number and the hall time as its stamp; its number. -/
def enterRecord (b : RecordBody) (s : State) : State × Nat :=
  let n := s.cst.nextNo
  let s' := s.updCst fun c =>
    { c with records := c.records ++ [{ number := n, stamp := s.now, body := b }]
             nextNo := nextRecordNo n }
  (checkHighMark s', n)

/-- 06 R122: an offer is taken whole; the record's number, or none where there is no room. -/
def offerRecord (b : RecordBody) (s : State) : State × Option Nat :=
  if hasRoom s b then
    let (s', n) := enterRecord b s
    (s', some n)
  else (s, none)

/-- 06 R123: a refused collector joins the stall list and the STORE claim is placed if it is not. -/
def stall (who : Collector) (s : State) : State :=
  let s := s.updCst fun c => { c with stalls := c.stalls ++ [who] }
  if s.lsq.claims.store then s else placeClaim .store s

/-- 06 R125: the claim is released when the fill is at or below the low mark and the stall list is empty. -/
def evaluateStoreClaim (s : State) : State :=
  if s.lsq.claims.store && decide (fill s ≤ s.cst.low) && s.cst.stalls.isEmpty then releaseClaim .store s else s

/-- 06 R123: a discarded stalled record leaves the list and the claim is evaluated. -/
def unstall (who : Collector) (s : State) : State :=
  evaluateStoreClaim (s.updCst fun c => { c with stalls := c.stalls.filter (fun w => !(w == who)) })

/-- 06 R128: from the oldest, each record numbered `n` or less, up to the first numbered above `n`. -/
def removeUpTo (n : Nat) (l : List Record) : List Record := l.dropWhile (fun r => decide (r.number ≤ n))

/-- Replace the record list by what a removal leaves, and arm the notice where that is at or below the low mark
(06 R126). -/
def afterRemoval (left : List Record) (s : State) : State :=
  checkLowMark (s.updCst fun c => { c with records := left })

end Sys2Proof.Machine
end

