-- ==== Sys2Proof/Machine/Gauges.lean ====
section
/-! DEFINITION. End reports to the cause table (08 R150) and what changes a gauge record outside a scan: zeros, low and
high points, cleared references (04 R77, R78, R81, R83 to R85). -/

namespace Sys2Proof.Machine

/-- 08 R150: an end report removes the subject from the active set and leaves it latched; nothing else. -/
def endReport (k : CauseKind) (subject : Nat) (s : State) : State :=
  s.updCause k fun c => { c with active := eraseNum subject c.active }

/-- The deviation check goes out of force: run 0, last deviation absent, and a condition that held ends with its end
reported (04 R77, R78, R81, R85, R86). -/
def dropDeviation (g : Fin 256) (s : State) : State :=
  let held := (s.gauge g).devHolds
  let s := s.updGauge g fun r => { r with devRun := 0, lastDev := none, devHolds := false }
  if held then endReport .deviation g.val s else s

/-- A zero by either route: one that differs from the stored value clears reference, deviation and latest value; an
equal one changes nothing (04 R81). -/
def changeZero (g : Fin 256) (z : Int) (s : State) : State :=
  if (s.gauge g).zero = z then s
  else
    dropDeviation g
      (s.updGauge g fun r => { r with zero := z, ref := .none, validity := .noneYet })

/-- A low point makes a mapped gauge LOW_SET, whatever its reference was, and takes its check out of force
(04 R83, R86). -/
def takeLowPoint (g : Fin 256) (pLo epsLo : Int) (s : State) : State :=
  if (s.gauge g).mapping.isNone then s
  else dropDeviation g (s.updGauge g fun r => { r with ref := .lowSet pLo epsLo })

/-- 04 R84: the slope of the line through the two points, scaled by 65,536. -/
def slopeOf (pLo epsLo pHi epsHi : Int) : Int := roundDiv ((epsHi - epsLo) * 65536) (pHi - pLo)

/-- A high point and its outcome (04 R84). -/
def takeHighPoint (g : Fin 256) (pHi epsHi minSpan : Int) (s : State) : State × RefOutcome :=
  match (s.gauge g).ref with
  | .lowSet pLo epsLo =>
      if ((pHi - pLo).natAbs : Int) ≥ minSpan then
        let c := slopeOf pLo epsLo pHi epsHi
        (s.updGauge g fun r => { r with ref := .valid pLo epsLo c }, .formed c)
      else (s, .spanShort)
  | _ => (s, .notLowSet)

/-- CLEAR REFERENCE for one gauge (04 R85). -/
def clearRef (g : Fin 256) (s : State) : State :=
  dropDeviation g (s.updGauge g fun r => { r with ref := .none })

/-- A module's FRONTEND_SILENT subject is its number (11 R197). -/
def moduleSubject (m : Fin 16) : Nat := m.val
def channelSubject (c : Fin 8) : Nat := 16 + c.val
def frontendSubject : Nat := 24

/-- A module that ceases to be in use ends its silence, the end reported (04 R74). -/
def leaveModule (m : Fin 16) (s : State) : State :=
  if !moduleInUse s m && (s.module m).silent then
    endReport .frontendSilent (moduleSubject m) (s.updModule m fun r => { r with silent := false })
  else s

end Sys2Proof.Machine
end

