-- ==== Sys2Proof/Machine/Survey.lean ====
section
/-! DEFINITION. The Survey Engine (05): walking the plan, triggers, collections, completions, demand surveys, aborts. -/

namespace Sys2Proof.Machine

/-! ### Notices (05 R116) -/

/-- A PLAN notice as the engine stands. -/
def raisePlan (s : State) : State :=
  raise
    (.plan (s.sve.heldReason == some .chainBroken) (s.sve.heldReason == some .aborted) s.sve.openSet.isSome
      s.sve.current (if s.sve.openSet.isSome then s.sve.setCounter else 0)) s

/-- The engine becomes HELD; a PLAN notice is raised with CHAIN_BROKEN or ABORTED, or with a set open. -/
def hold_ (why : HeldReason) (s : State) : State :=
  let s := s.updSve fun v => { v with state := .held, heldReason := some why, trigger := .untriggered }
  if why == .chainBroken || why == .aborted || s.sve.openSet.isSome then raisePlan s else s

/-! ### Sets (05 R95, R99) -/

/-- The set counter increases by one, from 65,535 to 1, and a new set opens with no completed entry. -/
def openSet (s : State) : State :=
  s.updSve fun v =>
    { v with setCounter := if v.setCounter = 65535 then 1 else v.setCounter + 1
             openSet := some { first := none, lastDone := none } }

def writeSetLast (first last : Fin 64) (s : State) : State :=
  s.setEntry first ((s.entry first).map fun e => { e with setLast := some last })

/-- The open set closes; its first entry, if it has one, receives set-last. -/
def closeSet (last : Option (Fin 64)) (s : State) : State :=
  match s.sve.openSet with
  | none => s
  | some o =>
      let s := s.updSve fun v => { v with openSet := none }
      match o.first, last with
      | some f, some l => writeSetLast f l s
      | _, _ => s

/-- Closed by request: set-last is the entry most recently completed in the set other than by abort. -/
def closeSetByRequest (s : State) : State := closeSet (s.sve.openSet.bind (·.lastDone)) s

/-! ### Starting a collection (05 R104, R105, R107) -/

/-- A gauge of a new collection: satisfied at once, all arrivals counted invalid, if it is UNMAPPED or its module is
SILENT. -/
def startGauge (s : State) (kind : SurveyKind) (scans : Nat) (g : Fin 256) : CollGauge :=
  let deaf :=
    match (s.gauge g).mapping with
    | none => true
    | some (m, _) => (s.module m).silent
  { gauge := g, arrivals := if deaf && !(kind == .range) then scans else 0, valid := 0, sum := 0, hi := none,
    lo := none, spoiled := false }

/-- A collection begins on the group's list as it stands; a ZERO is refused where |Pm| is above the zero window. -/
def newCollection (s : State) (kind : SurveyKind) (group : Fin 32) (scans : Nat) : Collection :=
  { kind := kind, group := group, scans := scans
    gauges := (s.ssu.groups.get group).map (startGauge s kind scans)
    start := s.now, periods := 0, pmSum := 0, pmHi := none, pmLo := none
    refused := kind == .zero && decide ((s.asa.pm.natAbs : Int) > s.sve.zeroWindow) }

/-- The current entry begins its collection in the plan collector. -/
def startPlanCollection (i : Fin 64) (s : State) : State :=
  match s.entry i with
  | none => s
  | some e =>
      let c := newCollection s e.kind e.group e.scans
      s.updSve fun v => { v with state := .collecting, collector := some c }

/-! ### Becoming current, triggers (05 R96, R101, R103) -/

/-- The smallest multiple of M above the total (05 R103). -/
def nextTarget (m total : Nat) : Nat := (total / m + 1) * m

/-- A HOLD or GATE triggers the current entry: settle 0 starts its collection at the trigger. -/
def triggerBy (gate : Bool) (i : Fin 64) (s : State) : State :=
  let s := s.updSve fun v => { v with state := .waiting, trigger := .segment gate 0 }
  match s.entry i with
  | some e => if e.settle = 0 then startPlanCollection i s else s
  | none => s

/-- An entry becomes current; its trigger decides the engine state at once (05 R96). -/
def becomeCurrent (i : Fin 64) (s : State) : State :=
  let s := s.updSve fun v =>
    { v with current := some i, heldReason := none, state := .waiting, trigger := .untriggered,
             collector := none, stalledRec := none }
  match s.entry i with
  | none => s
  | some e =>
      match e.trigger with
      | .immediate => startPlanCollection i s
      | .onHold => if holdInForce s then triggerBy false i s else s
      | .onGate => if gateInForce s then triggerBy true i s else s
      | .everyCycles =>
          s.updSve fun v => { v with trigger := .target (nextTarget e.interval s.cau.total) s.cau.total false }

/-- Moving on reads the completed entry's next index (05 R98). -/
def moveOn (i : Fin 64) (s : State) : State :=
  match s.entry i with
  | none => hold_ .chainBroken s
  | some e =>
      match s.entry e.next with
      | none => hold_ .chainBroken s
      | some _ => becomeCurrent e.next (if s.sve.openSet.isSome then s else openSet s)

/-- End control (05 R98): the mode decides whether the engine stops or moves on. -/
def endControl (i : Fin 64) (s : State) : State :=
  if s.sve.modeLast then
    if i = s.sve.lastIndex then hold_ .endLast s else moveOn i s
  else
    match s.entry i with
    | some e => if e.holdMark then hold_ .endMark s else moveOn i s
    | none => moveOn i s

/-! ### Completion (05 R97) -/

/-- An entry joins the open set. -/
def joinSet (i : Fin 64) (o : OpenSet) : OpenSet :=
  { first := some (o.first.getD i), lastDone := some i }

/-- Steps 1 to 4 of R97: fields written, set joined and closed, SURVEY notice.  `recNo` is the record's number,
0 where no record entered. -/
def completeFields (i : Fin 64) (res : EntryResult) (recNo : Nat) (s : State) : State :=
  match s.entry i with
  | none => s
  | some e =>
      let aborted := res == .aborted
      let setNo := if aborted then none else some s.sve.setCounter
      let e := { e with complete := true, result := some res, setLast := none, setNo := setNo }
      let s := s.setEntry i (some e)
      let s := s.updSve fun v =>
        { v with collector := none, stalledRec := none,
                 openSet := if aborted then v.openSet else v.openSet.map (joinSet i) }
      let s := if !aborted && e.setEnd then closeSet (some i) s else s
      if e.notify then
        raise (.survey (.plan i (number? setNo)) e.kind res (number? setNo) recNo) s
      else s

/-- An entry completes other than by abort: the fields, then end control. -/
def completeEntry (i : Fin 64) (res : EntryResult) (recNo : Nat) (s : State) : State :=
  endControl i (completeFields i res recNo s)

/-! ### Ending a collection (05 R104 to R108) -/

/-- At least ceil(A / 2) valid values give the average; fewer give none, and so does a spoiled gauge. -/
def CollGauge.average (scans : Nat) (g : CollGauge) : Option Int :=
  if !g.spoiled && decide (halfUp scans ≤ g.valid) then some (roundDiv g.sum g.valid) else none

/-- Pm_avg over the collection's periods, or the Pm standing at the end where it had none. -/
def Collection.pmAvg (c : Collection) (pm : Int) : Int :=
  if c.periods = 0 then pm else roundDiv c.pmSum c.periods

/-- A zero handed to a gauge that the demand collector is gathering makes its demand average invalid (05 R105). -/
def spoilDemand (g : Fin 256) (s : State) : State :=
  match s.sve.work with
  | .collecting c =>
      let gs := c.gauges.map fun x => if x.gauge = g then { x with spoiled := true } else x
      s.updSve fun v => { v with work := .collecting { c with gauges := gs } }
  | _ => s

/-- The hand-over of one gauge by the kind of the collection, and its entry in the record (05 R105, R106, R108). -/
def handOver (c : Collection) (pmAvg : Int) (s : State) (g : CollGauge) : State × SurveyGauge :=
  let avg := g.average c.scans
  let base : SurveyGauge :=
    { gauge := g.gauge, valid := g.valid, average := avg, devFlag := false, lowHanded := false,
      outcome := none, extra := 0 }
  match c.kind, avg with
  | .zero, some a => (spoilDemand g.gauge (changeZero g.gauge a s), base)
  | .refLow, some a => (takeLowPoint g.gauge pmAvg a s, { base with lowHanded := true })
  | .refHigh, some a =>
      let (s', o) := takeHighPoint g.gauge pmAvg a s.sve.minSpan s
      (s', { base with outcome := some o, extra := match o with | .formed sl => sl | _ => 0 })
  | _, _ => (s, base)

/-- The hand-overs in the list's order. -/
def handOverAll (c : Collection) (pmAvg : Int) : List CollGauge → State → State × List SurveyGauge
  | [], s => (s, [])
  | g :: gs, s =>
      let (s1, e) := handOver c pmAvg s g
      let (s2, es) := handOverAll c pmAvg gs s1
      (s2, e :: es)

/-- What a gauge entry carries as it stands at the end: the deviation flag, and for ZERO the zero the gauge now has. -/
def finishGauge (s : State) (kind : SurveyKind) (e : SurveyGauge) : SurveyGauge :=
  let r := s.gauge e.gauge
  { e with devFlag := r.devFlag, extra := if kind == .zero then r.zero else e.extra }

/-- 05 R106, R108: SPAN_SHORT for a REF_HIGH with no gauge FORMED; else DONE_PARTIAL with any invalid average. -/
def surveyResult (kind : SurveyKind) (gs : List SurveyGauge) : EntryResult :=
  let formed (g : SurveyGauge) : Bool := match g.outcome with | some (.formed _) => true | _ => false
  if kind == .refHigh && !gs.any formed then .spanShort
  else if gs.any (fun g => g.average.isNone) then .donePartial
  else .done

/-- The record of a finished ZERO, STATIC, REF_LOW or REF_HIGH collection, after the hand-over. -/
def surveyRecord (src : Source) (c : Collection) (s : State) : State × SurveyBody :=
  let pmAvg := c.pmAvg s.asa.pm
  let (s', es) := handOverAll c pmAvg c.gauges s
  let gs := es.map (finishGauge s' c.kind)
  (s', { source := src, kind := c.kind, group := c.group, scans := c.scans, start := c.start, stop := s.now,
         periods := c.periods, pmAvg := pmAvg, result := surveyResult c.kind gs, gauges := gs })

/-- A plan record is offered: entered, the entry completes; refused, the engine becomes STALLED (05 R109). -/
def offerPlanRecord (i : Fin 64) (b : RecordBody) (res : EntryResult) (s : State) : State :=
  match offerRecord b s with
  | (s', some n) => completeEntry i res n s'
  | (s', none) =>
      stall .plan (s'.updSve fun v => { v with state := .stalled, stalledRec := some b })

/-- One finished plan collection is ended: refused for load, it completes with no record; else hand-over and offer.
The collector stops gathering before the hand-over. -/
def endPlanCollection (s : State) : State :=
  match s.sve.current, s.sve.collector with
  | some i, some c =>
      let s := s.updSve fun v => { v with collector := none }
      if c.refused then completeEntry i .refusedLoaded 0 s
      else
        let (s', b) := surveyRecord (.plan i s.sve.setCounter) c s
        offerPlanRecord i (.survey b) b.result s'
  | _, _ => s

/-- End the plan collections that are due one after another, as long as the chain brings up new ones in the same event
(05 R96); a chain that outlasts the fuel never ends (log 5). -/
def planAdvance (due : Sve → Bool) : Nat → State → State
  | 0, s => if due s.sve then s.updSve fun v => { v with endless := true } else s
  | n + 1, s => if due s.sve then planAdvance due n (endPlanCollection s) else s

/-- Between two records that enter, a chain that does not repeat completes at most 64 entries, and at most 252 records
find room: a longer chain has come round without a change (log 5). -/
def chainBound : Nat := 16448

def runPlan (s : State) : State := planAdvance planFinished chainBound s

/-- Only what completes with no record: a chain of ZERO surveys refused for load (05 R105). -/
def runRefused (s : State) : State := planAdvance planRefused chainBound s

/-! ### Demand surveys (05 R113 to R115) -/

/-- The oldest request starts its STATIC collection. -/
def startDemand (s : State) : State :=
  match s.sve.demand with
  | [] => s.updSve fun v => { v with work := .idle }
  | r :: _ => s.updSve fun v => { v with work := .collecting (newCollection s .static r.group r.scans) }

/-- The demand request at the front is answered: its deferred slot decided, or, its reply having been given
TIMED_OUT, a SURVEY notice raised (05 R114, R115; 10 R192). -/
def answerDemand (r : DemandReq) (res : EntryResult) (recNo : Nat) (s : State) : State :=
  if r.replied then raise (.survey (.demand r.link r.tag) .static res 0 recNo) s
  else if res == .aborted then s.updLink r.link (decideSlot r.slot (fun _ => .aborted) [])
  else s.updLink r.link (decideSlot r.slot okOr (u32 recNo))

/-- The request leaves the queue, is answered, and the next starts in the same event. -/
def leaveDemand (res : EntryResult) (recNo : Nat) (s : State) : State :=
  match s.sve.demand with
  | [] => s
  | r :: rest =>
      startDemand (answerDemand r res recNo (s.updSve fun v => { v with demand := rest, work := .idle }))

/-- A finished demand collection ends: its record is offered, and stalls where there is no room. -/
def endDemandCollection (c : Collection) (s : State) : State :=
  match s.sve.demand with
  | [] => s.updSve fun v => { v with work := .idle }
  | r :: _ =>
      let s := s.updSve fun v => { v with work := .idle }
      let (s, b) := surveyRecord (.demand r.link r.tag) c s
      match offerRecord (.survey b) s with
      | (s', some n) => leaveDemand b.result n s'
      | (s', none) => stall .demand (s'.updSve fun v => { v with work := .stalled b })

/-- End finished demand collections; the queue holds at most 4 requests. -/
def demandAdvance : Nat → State → State
  | 0, s => s
  | n + 1, s =>
      match s.sve.work with
      | .collecting c => if c.finished then demandAdvance n (endDemandCollection c s) else s
      | _ => s

def runDemand (s : State) : State := demandAdvance (s.sve.demand.length + 1) s

/-! ### What the engine is told -/

/-- The sequencer announces a HOLD with its survey mark on (`gate` false) or a GATE (05 R101). -/
def announceSegment (gate : Bool) (s : State) : State :=
  let want : TriggerKind := if gate then .onGate else .onHold
  match s.sve.state, s.sve.current, s.sve.trigger with
  | .waiting, some i, .untriggered =>
      match s.entry i with
      | some e => if e.trigger = want then runPlan (triggerBy gate i s) else s
      | none => s
  | _, _, _ => s

/-- The engine's part of a servo period: a triggered entry counts its settle while the sequencer is not PAUSED, and
its collection starts at the period at which the count reaches the settle (05 R101). -/
def settleDue (s : State) : Bool :=
  match s.sve.state, s.sve.current, s.sve.trigger with
  | .waiting, some i, .segment _ n =>
      !isPaused s && (match s.entry i with | some e => decide (e.settle ≤ n + 1) | none => false)
  | _, _, _ => false

def settleStage (s : State) : State :=
  match s.sve.state, s.sve.current, s.sve.trigger with
  | .waiting, some i, .segment gate n =>
      if isPaused s then s
      else
        let due := settleDue s
        let s := s.updSve fun v => { v with trigger := .segment gate (n + 1) }
        if due then runPlan (startPlanCollection i s) else s
  | _, _, _ => s

/-- CAU tells of a window that opens: a triggered EVERY_CYCLES entry collects over it, and a RANGE collection already
running starts over (05 R103, R107). -/
def announceWindow (s : State) : State :=
  match s.sve.current with
  | none => s
  | some i =>
      match s.sve.state, s.sve.trigger with
      | .waiting, .target _ _ true => startPlanCollection i s
      | .collecting, .target _ _ _ => startPlanCollection i s
      | _, _ => s

/-- The load of a period, once its Pm is computed (05 R104, R107). -/
def Collection.addLoad (pm : Int) (c : Collection) : Collection :=
  { c with periods := c.periods + 1, pmSum := c.pmSum + pm
           pmHi := some (match c.pmHi with | some h => max h pm | none => pm)
           pmLo := some (match c.pmLo with | some l => min l pm | none => pm) }

def addLoads (s : State) : State :=
  let pm := s.asa.pm
  s.updSve fun v =>
    { v with collector := if v.state = .collecting then v.collector.map (Collection.addLoad pm) else v.collector
             work := match v.work with | .collecting c => .collecting (c.addLoad pm) | w => w }

def rangeGauge (s : State) (g : CollGauge) : RangeGauge :=
  { gauge := g.gauge, valid := g.valid, hi := g.hi, lo := g.lo, devFlag := (s.gauge g.gauge).devFlag }

/-- A RANGE collection ends at its window's completion, with the total reported (05 R107, R108). -/
def endRange (i : Fin 64) (c : Collection) (total : Nat) (s : State) : State :=
  let s := s.updSve fun v => { v with collector := none }
  let gs := c.gauges.map (rangeGauge s)
  let res : EntryResult := if gs.any (fun g => g.hi.isNone) then .donePartial else .done
  let b : RangeBody :=
    { source := .plan i s.sve.setCounter, group := c.group, start := c.start, stop := s.now,
      periods := c.periods, total := total, pmHi := c.pmHi.getD s.asa.pm, pmLo := c.pmLo.getD s.asa.pm,
      result := res, gauges := gs }
  runPlan (offerPlanRecord i (.range b) res s)

/-- 05 R103: the trigger test at a completion reported with total `t`; a total not above the one the target was formed
from, and below the maximum, shows that the counters were reset. -/
def testTarget (m t target base : Nat) : Trigger :=
  if target ≤ t then .target target base true
  else if t ≤ base ∧ t < max32 then .target m 0 (decide (m ≤ t))
  else .target target base false

/-- CAU tells of a completed cycle, with its total (05 R103, R107). -/
def announceCompletion (t : Nat) (s : State) : State :=
  match s.sve.current with
  | none => s
  | some i =>
      match s.sve.state, s.sve.collector, s.sve.trigger with
      | .collecting, some c, .target _ _ _ => endRange i c t s
      | .waiting, _, .target target base false =>
          match s.entry i with
          | some e => s.updSve fun v => { v with trigger := testTarget e.interval t target base }
          | none => s
      | _, _, _ => s

/-- One value a scan offers: the gauge, its raw ratio, its strain and whether it is valid (04 R80). -/
structure OfferVal where
  gauge : Fin 256
  ratio : Int
  strain : Int
  valid : Bool
deriving DecidableEq, Repr

/-- An arrival for a gauge being gathered: the next of its A arrivals, or, for RANGE, its extremes. -/
def CollGauge.take (kind : SurveyKind) (scans : Nat) (vals : List OfferVal) (g : CollGauge) : CollGauge :=
  match vals.find? (fun o => o.gauge == g.gauge) with
  | none => g
  | some o =>
      if kind == .range then
        if o.valid then
          { g with valid := g.valid + 1
                   hi := some (match g.hi with | some h => max h o.strain | none => o.strain)
                   lo := some (match g.lo with | some l => min l o.strain | none => o.strain) }
        else g
      else if g.satisfied scans then g
      else
        let x := if kind == .zero then o.ratio else o.strain
        { g with arrivals := g.arrivals + 1
                 valid := if o.valid then g.valid + 1 else g.valid
                 sum := if o.valid then g.sum + x else g.sum }

def Collection.take (vals : List OfferVal) (c : Collection) : Collection :=
  { c with gauges := c.gauges.map (CollGauge.take c.kind c.scans vals) }

/-- The scan's values are offered to the plan collector, then to the demand collector; a collection they satisfy ends
(04 R80, 05 R104; log 11). -/
def offerScan (vals : List OfferVal) (s : State) : State :=
  let s := s.updSve fun v =>
    { v with collector := if v.state = .collecting then v.collector.map (Collection.take vals) else v.collector
             work := match v.work with | .collecting c => .collecting (c.take vals) | w => w }
  runDemand (runPlan s)

/-- A SILENT module's unsatisfied gauges are satisfied, their missing arrivals counted invalid; silence ends nothing
of a RANGE (05 R104, R107). -/
def Collection.deafen (lost : List (Fin 256)) (c : Collection) : Collection :=
  if c.kind == .range then c
  else
    { c with gauges := c.gauges.map fun g =>
        if lost.contains g.gauge && !g.satisfied c.scans then { g with arrivals := c.scans } else g }

/-- SSU tells that a module has become SILENT (R104).  Where it ends both collections the plan's ends first (DESIGN
CHOICE, log 50). -/
def tellSilence (lost : List (Fin 256)) (s : State) : State :=
  let s := s.updSve fun v =>
    { v with collector := if v.state = .collecting then v.collector.map (Collection.deafen lost) else v.collector
             work := match v.work with | .collecting c => .collecting (c.deafen lost) | w => w }
  runDemand (runPlan s)

/-! ### Aborts and stopping (05 R110, R111, R115) -/

/-- A plan entry in settle, COLLECTING or STALLED completes ABORTED, its record discarded; the engine becomes HELD. -/
def abortPlan (s : State) : State :=
  if entryActive s.sve then
    match s.sve.current with
    | none => s
    | some i =>
        let stalled := s.sve.state == .stalled
        let s := s.updSve fun v => { v with collector := none, stalledRec := none, state := .held }
        let s := if stalled then unstall .plan s else s
        hold_ .aborted (completeFields i .aborted 0 s)
  else s

/-- The demand request collecting or stalled is aborted, and the next starts at once. -/
def abortDemand (s : State) : State :=
  match s.sve.work with
  | .idle => s
  | .collecting _ => runDemand (leaveDemand .aborted 0 s)
  | .stalled _ => runDemand (leaveDemand .aborted 0 (unstall .demand s))

/-- What SVE does at PRU's entry into UNLOADING or DUMPED (05 R110): the plan's abort before the demand's (DESIGN CHOICE,
log 50). -/
def abortSurveys (s : State) : State := abortDemand (abortPlan s)

/-- STOP PLAN from any state but OFF (05 R111): no PLAN notice.  Of a STALLED entry the record is discarded and the STORE
claim judged before the entry completes, so a STATE notice of the claim's release goes before the SURVEY notice (05 R111
and 06 R123 give no order: DESIGN CHOICE, log 55). -/
def stopPlan (s : State) : State :=
  let active := s.sve.state == .collecting || s.sve.state == .stalled
  let stalled := s.sve.state == .stalled
  let s :=
    match active, s.sve.current with
    | true, some i =>
        let s := s.updSve fun v => { v with collector := none, stalledRec := none, state := .held }
        let s := if stalled then unstall .plan s else s
        completeFields i .aborted 0 s
    | _, _ => s
  let s := closeSetByRequest s
  s.updSve fun v =>
    { v with state := .off, current := none, heldReason := none, trigger := .untriggered, collector := none,
             stalledRec := none }

/-! ### Stalled records enter (06 R124) -/

/-- The record a stalled collector keeps. -/
def stalledBody (s : State) : Collector → Option RecordBody
  | .plan => s.sve.stalledRec
  | .demand => match s.sve.work with | .stalled b => some (.survey b) | _ => none

/-- Whether the record at the front of the stall list finds room. -/
def stallAdmits (s : State) : Bool :=
  match s.cst.stalls with
  | [] => false
  | w :: _ => (stalledBody s w).elim false (hasRoom s)

/-- The result a stalled record carries for its entry. -/
def RecordBody.result : RecordBody → EntryResult
  | .survey b => b.result
  | .range b => b.result
  | _ => .done

/-- The entry or request whose stalled record entered completes, and what then comes up in its place begins (05 R109,
R114); a record that ends at once is not yet offered (06 R124). -/
def completeStalled (w : Collector) (no : Nat) (s : State) : State :=
  match w with
  | .plan =>
      match s.sve.current, s.sve.stalledRec with
      | some i, some b => runRefused (completeEntry i b.result no s)
      | _, _ => s
  | .demand =>
      match s.sve.work with
      | .stalled b => leaveDemand b.result no s
      | _ => s

/-- While the record at the front of the stall list finds room it enters, its collector leaves the list, and its entry
or request completes; who entered, in order.  The STORE notice of the entry no longer counts the entering collector in its
stall list length (DESIGN CHOICE, log 53). -/
def admitStalled : Nat → State → State × List Collector
  | 0, s => (s, [])
  | n + 1, s =>
      match s.cst.stalls with
      | [] => (s, [])
      | w :: rest =>
          match stalledBody s w with
          | none => admitStalled n (s.updCst fun c => { c with stalls := rest })
          | some b =>
              if hasRoom s b then
                let (s1, no) := enterRecord b (s.updCst fun c => { c with stalls := rest })
                let (s2, l) := admitStalled n (completeStalled w no s1)
                (s2, w :: l)
              else (s, [])

/-- The new offers of a collector whose stalled record entered. -/
def resumeCollector (s : State) : Collector → State
  | .plan => runPlan s
  | .demand => runDemand s

/-- The stall list is served, then the STORE claim is evaluated, then what the completions offer at once is taken, in the
order of the entries (06 R124, R125, R129; log 12). -/
def serveStalls (s : State) : State :=
  let (s, entered) := admitStalled s.cst.stalls.length s
  entered.foldl resumeCollector (evaluateStoreClaim s)

end Sys2Proof.Machine
end

