-- ==== Sys2Proof/Machine/Protection.lean ====
section
/-! DEFINITION. The Protection Unit (08): reports into the cause table, the demanded level, the moves between protection
states with their effects on the other blocks, snapshots, ALARM notices, and PRU's own requests. -/

namespace Sys2Proof.Machine

/-! ### What a move does to the other blocks -/

/-- PRU enters a state; the hall time is the state-entry time (08 R156). -/
def setPru (p : PState) (s : State) : State := s.updPru fun u => { u with state := p, entered := s.now }

/-- Entry into UNLOADING: each ENABLED actuator's unload value starts from its latest setpoint (02 R49). -/
def Actuator.startUnload (a : Actuator) : Actuator :=
  if a.cfg.enabled then { a with unload := some (a.setpoint.getD 0 * 1024), arrived := false } else a

/-- Entry into DUMPED (02 R39): valve and integral 0, setpoint absent, unload value discarded. -/
def Actuator.dump (a : Actuator) : Actuator :=
  { a with valve := 0, integral := 0, setpoint := none, unload := none, arrived := false }

/-- CAU closes the window without judgement (03 R58). -/
def closeWindow (s : State) : State := s.updCau fun c => { c with window := none }

/-! ### Snapshots and ALARM notices (08 R165, R166) -/

/-- A latched cause as a snapshot carries it. -/
def snapCause (s : State) (k : CauseKind) : Option SnapCause :=
  let c := s.cause k
  if c.isLatched then some { kind := k, cause := c, level := causeLevel s k } else none

def snapAct (s : State) (i : Fin 8) : Option SnapAct :=
  let a := s.act i
  if a.cfg.enabled then
    some { act := i, force := a.force, disp := a.disp, missing := a.missing, setpoint := a.setpoint,
           valve := a.valve, overload := a.overload, limit := a.limit, sensor := a.sensor }
  else none

/-- The body of a SNAPSHOT record as things stand after an entry's effects (06 R121).  An entry into UNLOADING or DUMPED
has given up the running copy, so the table says whether a CYCLE is at the position (DESIGN CHOICE, log 56); P is that of
P_fine as it stands, just seeded by ARM too (DESIGN CHOICE, log 57). -/
def snapBody (left : PState) (level : Level) (s : State) : SnapBody :=
  { entered := s.pru.state, left := left, demand := level, caution := s.ckm.caution, seq := s.lsq.state,
    index := s.lsq.pos.index, claims := s.lsq.claims,
    cyclesDone := if cycleAtPosition s then some s.lsq.pos.cyclesDone else none,
    line := s.pins.estop, load := programLoad s, pm := s.asa.pm, total := s.cau.total,
    causes := allCauses.filterMap (snapCause s), acts := (allFin 8).filterMap (snapAct s) }

/-- The snapshot of an entry is offered; its number, or none where it is lost. -/
def offerSnapshot (left : PState) (level : Level) (s : State) : State × Option Nat :=
  offerRecord (.snapshot (snapBody left level s)) s

/-- An ALARM notice as things stand; `snap` tells of a snapshot offered in the event: its number, or lost. -/
def raiseAlarm (before : PState) (snap : Option (Option Nat)) (causes : List (CauseKind × List Nat)) (s : State) :
    State :=
  raise
    (.alarm { after := s.pru.state, before := before, demand := demandedLevel s, line := s.pins.estop,
              lost := snap == some none, firstSnap := snap.join, lastSnap := snap.join, causes := causes }) s

/-! ### Entering the states of a stop -/

/-- 08 R158. -/
def enterHolding (s : State) : State := placeClaim .protection (setPru .holding s)

/-- 08 R159: the claim's removal and the sequencer's move are one event. -/
def enterUnloading (s : State) : State :=
  let s := seqUnload (setClaim .protection false (setPru .unloading s))
  closeWindow (abortSurveys (s.updActs Actuator.startUnload))

/-- 08 R161.  Each frame's twist count stands until the next period clears it (02 R54; log 38).  Of a seeding done just
before, at the unload's completion, the setpoints are undone, and P_fine and the offsets stay (08 R164 leaves open what
is undone: DESIGN CHOICE, log 54). -/
def enterDumped (s : State) : State :=
  let s := (setPru .dumped s).updActs Actuator.dump
  let s := s.updAsa fun a => { a with isolation := false }
  closeWindow (abortSurveys (seqDump (setClaim .protection false s)))

/-- The move of 08 R157 into a state that a demanded level calls for, with its snapshot. -/
def enter (p : PState) (level : Level) (s : State) : State × Option Nat :=
  let left := s.pru.state
  let s' :=
    match p with
    | .holding => enterHolding s
    | .unloading => enterUnloading s
    | .dumped => enterDumped s
    | _ => s
  offerSnapshot left level s'

/-- Evaluate the demanded level, escalate, and raise the event's ALARM notice if it moved PRU or concerns causes
(08 R154, R157, R166; log 8). -/
def evaluate (causes : List (CauseKind × List Nat)) (s : State) : State :=
  match moveFor s.pru.state (demandedLevel s) with
  | some p =>
      let (s', n) := enter p (demandedLevel s) s
      raiseAlarm s.pru.state (some n) causes s'
  | none => if causes.isEmpty then s else raiseAlarm s.pru.state none causes s

/-! ### Reports (08 R150, R151) -/

/-- Add subjects to the latched set, and to the active set for a start. -/
def Cause.latch (now : Nat) (active : Bool) (subjects : List Nat) (c : Cause) : Cause :=
  { c with latched := unionNum subjects c.latched
           active := if active then unionNum subjects c.active else c.active
           stamp := if c.isLatched then c.stamp else some now }

/-- A start report: one subject becomes active and latched. -/
def startReport (k : CauseKind) (subject : Nat) (s : State) : State :=
  let s' := s.updCause k (Cause.latch s.now true [subject])
  if (s.cause k).masked then s' else evaluate [(k, [subject])] s'

/-- An event report of TRACKING or STIFFNESS: its subjects are latched together and never active. -/
def eventReport (k : CauseKind) (subjects : List Nat) (s : State) : State :=
  let s' := s.updCause k (Cause.latch s.now false subjects)
  if (s.cause k).masked then s' else evaluate [(k, subjects)] s'

/-- A start or an end as a block reports it. -/
structure Report where
  start : Bool
  kind : CauseKind
  subject : Nat
deriving DecidableEq, Repr

def takeReport (s : State) (r : Report) : State :=
  if r.start then startReport r.kind r.subject s else endReport r.kind r.subject s

/-- Reports are taken one after another, each whole. -/
def takeReports (rs : List Report) (s : State) : State := rs.foldl takeReport s

/-- The report, if any, of a condition that stood at `before` and stands at `after`. -/
def changeReport (k : CauseKind) (subject : Nat) (before after : Bool) : List Report :=
  if before == after then [] else [{ start := after, kind := k, subject := subject }]

/-! ### The emergency-stop line (08 R152) -/

/-- A change of the line to ASSERTED starts ESTOP. -/
def assertLine (s : State) : State :=
  if s.pins.estop then s else startReport .estop 0 { s with pins := { s.pins with estop := true } }

/-- A change of the line to CLEAR ends ESTOP. -/
def clearLine (s : State) : State :=
  if s.pins.estop then endReport .estop 0 { s with pins := { s.pins with estop := false } } else s

/-! ### SET CAUSE (08 R155) -/

/-- The level SET CAUSE stores, if the kind allows what is asked; CRACK_LOOP keeps having none. -/
def causeLevelField (k : CauseKind) (level : Nat) : Option (Option Level) :=
  if k = .crackLoop then some none
  else
    match level? level with
    | some l => if allowedLevel k l then some (some l) else none
    | none => none

/-- A cause entry as a reply carries it (11 R199). -/
def causeEntry (s : State) (k : CauseKind) : List Byte :=
  encCause k (s.cause k) (causeLevel s k) (s.cause k).active

def setCause (kind level mask : Nat) (s : State) : State × Answer :=
  match cause? kind, bool? mask with
  | some k, some m =>
      match causeLevelField k level with
      | none => (s, refuse .badField)
      | some lv =>
          if m && !maskable k then (s, refuse .badField)
          else
            let old := s.cause k
            let s1 := s.updCause k fun c => { c with level := lv, masked := m }
            let s2 :=
              if old.isLatched then evaluate (if old.masked && !m then [(k, old.latched)] else []) s1 else s1
            (s2, .reply .ok (causeEntry s2 k))
  | _, _ => (s, refuse .badField)

/-! ### ARM and RESUME ALARM (08 R162, R163) -/

/-- What a refused ARM or RESUME ALARM carries beside its status (11 R199). -/
def blockers (s : State) : List Byte :=
  u8 (demandedLevel s).code
    ++ bitmap 2 ((allCauses.filter (fun k => (s.cause k).isLatched)).map CauseKind.code)

/-- The demanded level does not stand against leaving a stop. -/
def levelAllows (s : State) : Bool := decide ((demandedLevel s).rank ≤ Level.notify.rank)

/-- 02 R42: the offset that makes the unclamped setpoint equal `f`. -/
def seedOffset (pFine f : Int) (share : Nat) : Int := f * 1024 - roundDiv (pFine * share) 1000

/-- 02 R42: P_fine from the latest Pm. -/
def seedLoad (pm : Int) : Int := clampInt (-1000000) 1000000 pm * 1024

/-- 02 R42 at ARM: S is cleared, and an ENABLED actuator's offset and setpoint come from its held force. -/
def Actuator.seedAtArm (pFine : Int) (a : Actuator) : Actuator :=
  if a.cfg.enabled then
    { a with integral := 0, offset := seedOffset pFine a.force a.cfg.share,
             setpoint := some (a.cfg.window a.force) }
  else { a with integral := 0 }

/-- The isolation output is energized and the array is seeded. -/
def armArray (s : State) : State :=
  let p := seedLoad s.asa.pm
  let s := s.updAsa fun a => { a with isolation := true }
  (s.updLsq fun q => { q with pFine := p }).updActs (Actuator.seedAtArm p)

def arm (s : State) : State × Answer :=
  match s.pru.state with
  | .safe | .dumped =>
      if s.pins.estop then (s, .reply .estopActive (blockers s))
      else if levelAllows s then
        (raiseAlarm s.pru.state none [] (armArray (setPru .armed s)), .reply .ok [])
      else (s, .reply .causeLatched (blockers s))
  | _ => (s, .reply .wrongState (blockers s))

def resumeAlarm (s : State) : State × Answer :=
  match s.pru.state with
  | .holding | .unloaded =>
      if levelAllows s then
        (raiseAlarm s.pru.state none [] (releaseClaim .protection (setPru .armed s)), .reply .ok [])
      else (s, .reply .causeLatched (blockers s))
  | _ => (s, .reply .wrongState (blockers s))

/-! ### Reading and taking alarms (08 R167, R168) -/

def readAlarms (s : State) : List Byte :=
  let latched := (s.cause .crackLoop).latched
  u8 s.pru.state.code ++ u32 s.pru.entered ++ u8 (demandedLevel s).code ++ flag s.pins.estop
    ++ listOf (allCauses.map (causeEntry s))
    ++ ((allFin 32).map fun i =>
          u8? (if latched.contains i.val then some (s.loop i).level.code else none)).flatten

/-- Subjects that are not active leave the latched set; a cause left with none is not latched. -/
def Cause.take (c : Cause) : Cause :=
  let stay := c.latched.filter (fun x => c.active.contains x)
  { c with latched := stay, stamp := if stay.isEmpty then none else c.stamp }

/-- The gauges that TAKE ALARMS removes from the DEVIATION subjects lose their deviation flag (04 R88). -/
def clearFlags (removed : List Nat) (s : State) : State :=
  s.updSsu fun u =>
    { u with gauges := u.gauges.mapIdx fun i g => if removed.contains i then { g with devFlag := false } else g }

/-- TAKE ALARMS (R168).  The flags, level and first-latch stamp of an entry of the reply are those from before the request,
as its latched subjects are (no rule settles them: log 13). -/
def takeAlarms (s : State) : State × Answer :=
  let dev := s.cause .deviation
  let removed := dev.latched.filter (fun x => !dev.active.contains x)
  let s1 := clearFlags removed (s.updPru fun p => { p with causes := p.causes.map Cause.take })
  let s2 := evaluate [] s1
  let entries := allCauses.filterMap fun k =>
    if (s.cause k).isLatched then some (encCause k (s.cause k) (causeLevel s k) (s2.cause k).latched) else none
  (s2, .reply .ok (u8 (demandedLevel s2).code ++ listOf entries))

end Sys2Proof.Machine
end

