-- ==== Sys2Proof/Machine/Actuators.lean ====
section
/-! DEFINITION. The Actuator Servo Array (02): feedback, the stages of a servo period, unloading, and the array's own
requests. -/

namespace Sys2Proof.Machine

/-! ### Feedback (02 R36) -/

/-- A channel is taken as valid only inside ±1,000,000 daN and ±500,000 µm. -/
def goodSample (f : FeedbackIn) : Bool :=
  f.valid && decide (f.force.natAbs ≤ 1000000) && decide (f.disp.natAbs ≤ 500000)

def Actuator.feed (f : FeedbackIn) (a : Actuator) : Actuator :=
  if goodSample f then { a with force := f.force, disp := f.disp, fresh := true } else a

/-- A feedback set: channel i is the i-th entry, and all eight are taken whatever their use. -/
def takeFeedback (channels : List FeedbackIn) (s : State) : State :=
  s.updAsa fun a =>
    { a with acts := a.acts.mapIdx fun i r =>
        match channels[i]? with
        | some f => r.feed f
        | none => r }

/-! ### The stages of a servo period (02 R38) -/

/-- Stage 1 (R37): the missing-sample count of an ENABLED actuator. -/
def Actuator.settleMissing (a : Actuator) : Actuator :=
  if a.cfg.enabled then
    if a.fresh then { a with missing := 0, fresh := false } else { a with missing := min 255 (a.missing + 1) }
  else a

/-- The first form of R40, from the program load, the share and the offset. -/
def Actuator.programSetpoint (pFine : Int) (a : Actuator) : Int :=
  a.cfg.window (roundDiv (pFine * a.cfg.share + a.offset * 1000) 1024000)

/-- The second form of R40, from the unload value. -/
def Actuator.unloadSetpoint (a : Actuator) : Int := a.cfg.window (roundDiv (a.unload.getD 0) 1024)

/-- Stage 2 (R39, R40): setpoints with the servo enabled; without it, nothing is driven. -/
def Actuator.formSetpoint (servo unloading : Bool) (pFine : Int) (a : Actuator) : Actuator :=
  if servo then
    if a.cfg.enabled then
      { a with setpoint := some (if unloading then a.unloadSetpoint else a.programSetpoint pFine) }
    else a
  else { a with setpoint := none, integral := 0, valve := 0 }

/-- Stage 3 (R53): OVERLOAD and LIMIT of an ENABLED actuator, on the held feedback. -/
def Actuator.check (a : Actuator) : Actuator :=
  if a.cfg.enabled then
    { a with overload := decide (a.cfg.trip < (a.force.natAbs : Int))
             limit := decide (a.disp < a.cfg.dmin) || decide (a.cfg.dmax < a.disp) }
  else a

/-- The servo error of a period. -/
def Actuator.error (a : Actuator) : Int := a.setpoint.getD 0 - a.force

/-- The errors of a frame's ENABLED actuators. -/
def frameErrors (s : State) (f : Fin 4) : List Int :=
  (s.asa.acts.cells.filter (fun a => a.cfg.enabled && a.cfg.frame == f)).map Actuator.error

/-- The largest error less the smallest. -/
def spread : List Int → Int
  | [] => 0
  | e :: es => es.foldl max e - es.foldl min e

/-- Stage 3 (R54): the twist check of one frame. -/
def Frame.check (servo : Bool) (errors : List Int) (f : Frame) : Frame :=
  if servo && decide (0 < f.limit) && decide (2 ≤ errors.length) then
    let n := if (f.limit : Int) < spread errors then min 1024 (f.count + 1) else 0
    { f with count := n, twist := decide (f.confirm ≤ n) }
  else { f with count := 0, twist := false }

def checkFrames (servo : Bool) (s : State) : State :=
  s.updAsa fun a =>
    { a with frames := a.frames.mapIdx fun i f => f.check servo (frameErrors s (Fin.ofNat 4 i)) }

/-- The integral sum's limit (R46). -/
def integralLimit : Int := 131072000
/-- The valve's full scale (R46, R47). -/
def fullScale : Int := 32000

/-- R46: the integral sum and the unclamped command of a period, with anti-windup. -/
def ActCfg.loop (c : ActCfg) (sum err : Int) : Int × Int :=
  let sum' := clampInt (-integralLimit) integralLimit (sum + c.ki * err)
  let u := roundDiv (c.kp * err + sum') 4096
  if (fullScale < u ∧ 0 < err) ∨ (u < -fullScale ∧ err < 0) then (sum, roundDiv (c.kp * err + sum) 4096)
  else (sum', u)

/-- R47: the command as driven. -/
def ActCfg.drive (c : ActCfg) (u : Int) : Int :=
  let v := clampInt (-fullScale) fullScale u
  if c.inverted then -v else v

/-- Stage 4 (R46, R47): the servo loop of an ENABLED actuator; an UNUSED one outputs 0. -/
def Actuator.serve (servo : Bool) (a : Actuator) : Actuator :=
  if servo && a.cfg.enabled then
    let r := a.cfg.loop a.integral a.error
    { a with integral := r.1, valve := a.cfg.drive r.2 }
  else { a with valve := 0, integral := 0 }

/-- Stage 5 (R51): the measured reference load. -/
def measuredLoad (acts : List Actuator) : Int :=
  let l := acts.filter Actuator.counts
  let shares := (l.map (fun a => a.cfg.share)).sum
  if shares = 0 then 0 else roundDiv ((l.map (fun a => a.force)).sum * 1000) shares

/-- Stages 1 to 5 of a period that begins with the servo as `servo` says. -/
def missingStage (s : State) : State := s.updActs Actuator.settleMissing
def setpointStage (servo : Bool) (s : State) : State :=
  s.updActs (Actuator.formSetpoint servo (s.pru.state == .unloading) s.lsq.pFine)
def checkStage (servo : Bool) (s : State) : State := checkFrames servo (s.updActs Actuator.check)
def servoStage (servo : Bool) (s : State) : State := s.updActs (Actuator.serve servo)
def loadStage (s : State) : State := s.updAsa fun a => { a with pm := measuredLoad a.acts.cells }

/-- Stages 1 to 3, up to the checks. -/
def checkedArray (s : State) : State :=
  checkStage s.pru.state.servo (setpointStage s.pru.state.servo (missingStage s))

/-- Stages 1 to 5. -/
def workArray (s : State) : State := loadStage (servoStage s.pru.state.servo (checkedArray s))

/-- Stage 7 (R52): the starts and ends that the period found, from the array before and after. -/
def arrayReports (before after : Asa) : List Report :=
  (allFin 8).flatMap (fun i =>
      changeReport .sensor i.val (before.acts.get i).sensor (after.acts.get i).sensor)
    ++ (allFin 8).flatMap (fun i =>
      changeReport .overload i.val (before.acts.get i).overload (after.acts.get i).overload)
    ++ (allFin 8).flatMap (fun i =>
      changeReport .limit i.val (before.acts.get i).limit (after.acts.get i).limit)
    ++ (allFin 4).flatMap (fun f =>
      changeReport .twist f.val (before.frames.get f).twist (after.frames.get f).twist)

/-! ### Unloading (02 R49, R50) -/

/-- One period's move of an unload value toward the rest force. -/
def Actuator.unloadMove (a : Actuator) : Actuator :=
  match a.unload with
  | none => a
  | some u =>
      let v := moveToward (a.cfg.rest * 1024) a.cfg.unloadRate u
      { a with unload := some v, arrived := decide (v = a.cfg.rest * 1024) }

/-- Every ENABLED actuator has arrived; with none ENABLED, that is so at once. -/
def allArrived (s : State) : Bool := s.asa.acts.cells.all (fun a => !a.cfg.enabled || a.arrived)

/-- R43: an ENABLED actuator is seeded on its unload setpoint, S is kept, and the unload value ceases to exist. -/
def Actuator.seedAtRest (pFine : Int) (a : Actuator) : Actuator :=
  if a.cfg.enabled then
    { a with offset := seedOffset pFine a.unloadSetpoint a.cfg.share, unload := none, arrived := false }
  else { a with unload := none, arrived := false }

/-- ASA seeds P_fine and the offsets from the period's Pm. -/
def seedAtRest (s : State) : State :=
  let p := seedLoad s.asa.pm
  (s.updLsq fun q => { q with pFine := p }).updActs (Actuator.seedAtRest p)

/-- 02 R50, 08 R160: the completion of the unload. -/
def completeUnload (s : State) : State :=
  raiseAlarm s.pru.state none [] (seqUnloaded (setPru .unloaded (seedAtRest s)))

/-- The unload completes at this period. -/
def unloadDone (s : State) : Bool := s.pru.state == .unloading && allArrived s

/-! ### SET ACTUATOR (02 R32, R33, R44) -/

/-- R44: the offset that keeps the unclamped setpoint at a change of share. -/
def reseedShare (pFine offset : Int) (old new : Nat) : Int :=
  seedOffset pFine (roundDiv (pFine * old + offset * 1000) 1024000) new

/-- The running state after an accepted SET ACTUATOR; the ends of its conditions are reported apart. -/
def Actuator.store (pFine : Int) (c : ActCfg) (a : Actuator) : Actuator :=
  let old := a.cfg
  let a := { a with cfg := c }
  if c.enabled && !old.enabled then { a with missing := 0, fresh := false }
  else if !c.enabled && old.enabled then
    { a with offset := 0, integral := 0, valve := 0, missing := 0, overload := false, limit := false }
  else
    { a with
      offset := if c.enabled && c.share != old.share then reseedShare pFine a.offset old.share c.share else a.offset
      setpoint :=
        if c.fmin != old.fmin || c.fmax != old.fmax then a.setpoint.map c.window else a.setpoint }

/-- The ends that a request made UNUSED reports. -/
def actuatorEnds (i : Fin 8) (before after : Actuator) : List Report :=
  changeReport .sensor i.val before.sensor after.sensor
    ++ changeReport .overload i.val before.overload after.overload
    ++ changeReport .limit i.val before.limit after.limit

def useOrFrameChanges (c old : ActCfg) : Bool := c.enabled != old.enabled || c.frame != old.frame
def shareOrClampChanges (c old : ActCfg) : Bool :=
  c.share != old.share || c.fmin != old.fmin || c.fmax != old.fmax

def setActuator (arg : ActuatorArg) (s : State) : State × Answer :=
  match checkActuator arg with
  | none => (s, refuse .badField)
  | some (i, c, clamped) =>
      let old := s.act i
      if useOrFrameChanges c old.cfg && s.pru.state.servo then (s, refuse .wrongState)
      else if shareOrClampChanges c old.cfg && !seqResting s then (s, refuse .wrongState)
      else
        let s1 := s.updAct i (Actuator.store s.lsq.pFine c)
        (takeReports (actuatorEnds i old (s1.act i)) s1, .reply (okOr clamped) (encActuator i c))

/-! ### SET FRAME, SET ALIGNMENT, READ ACTUATOR (02 R34, R35) -/

def setFrame (index limit confirm : Nat) (s : State) : State × Answer :=
  match index? 4 index with
  | none => (s, refuse .badField)
  | some i =>
      let l := clampN 0 2000000 limit
      let c := clampN 1 1024 confirm
      let s := s.updFrame i fun f =>
        { f with limit := l.1, confirm := c.1, count := if l.1 = 0 then 0 else f.count }
      (s, .reply (okOr (l.2 || c.2)) (encFrame i (s.frame i)))

def setAlignment (rate : Nat) (s : State) : State × Answer :=
  let r := clampN 1 200000 rate
  (s.updAsa fun a => { a with alignRate := r.1 }, .reply (okOr r.2) [])

/-- READ ACTUATOR (R35).  The unload group is present where the actuator has an unload value: an UNUSED one has none in
UNLOADING either (DESIGN CHOICE, log 42). -/
def readActuator (index : Nat) (s : State) : State × Answer :=
  match index? 8 index with
  | none => (s, refuse .badField)
  | some i =>
      let a := s.act i
      let f := s.frame a.cfg.frame
      (s, .reply .ok
        (encActuator i a.cfg ++ i32 a.force ++ i32 a.disp ++ u8 a.missing ++ i32? a.setpoint
          ++ i32 a.integral ++ i16 a.valve ++ i64 a.offset
          ++ flag a.unload.isSome ++ i64 (a.unload.getD 0) ++ flag a.arrived
          ++ flag a.overload ++ flag a.limit ++ flag a.sensor
          ++ encFrame a.cfg.frame f ++ flag f.twist
          ++ i32 s.asa.pm ++ u32 s.asa.alignRate ++ flag s.asa.isolation))

end Sys2Proof.Machine
end

