-- ==== Sys2Proof/Machine/Sequencer.lean ====
section
/-! DEFINITION. The Load Sequencer (01): its part of a servo period, segment by segment, and its own requests. -/

namespace Sys2Proof.Machine

/-! ### What a period tells the Cycle Accounting Unit (01 R13, R19) -/

/-- A completed cycle: the CYCLE's index, its cycles done after the completion, and the interrupted mark. -/
structure CycleEnd where
  index : Nat
  cyclesDone : Nat
  interrupted : Bool
deriving DecidableEq, Repr

/-- `capture`: a CYCLE with the stiffness-reference option was entered; `opened`: a rising half opened, with the
valley and peak of the working copy; `ended`: a cycle completed. -/
structure CycleNews where
  capture : Bool
  opened : Option (Int × Int)
  ended : Option CycleEnd
deriving DecidableEq, Repr

def noNews : CycleNews := { capture := false, opened := none, ended := none }

/-! ### Ending and succeeding (01 R14) -/

/-- The successor `n` becomes the position, not yet entered; past the last segment the program is DONE. -/
def succeed (n : Nat) (s : State) : State :=
  if n < s.lsq.prog.length then
    seqBecome .running (s.updLsq fun q => { q with running := none, pos := { index := n, cyclesDone := 0 } })
  else seqBecome .done (s.updLsq fun q => { q with running := none })

/-- The next index. -/
def succeedNext (s : State) : State := succeed (s.lsq.pos.index + 1) s

def updRunning (f : Running → Running) (s : State) : State :=
  s.updLsq fun q => { q with running := q.running.map f }

/-! ### RAMP (01 R16) -/

/-- The step of a RAMP, with the caution flag read at the period. -/
def rampRate (caution : Bool) (rate : Nat) : Nat := if caution then max 1 (rate / 2) else rate

def rampStep (target : Int) (rate : Nat) (s : State) : State :=
  let goal := target * 1024
  let step := rampRate s.ckm.caution rate
  let arrives := decide ((goal - s.lsq.pFine).natAbs ≤ step)
  let s := s.updLsq fun q => { q with pFine := moveToward goal step q.pFine }
  if arrives then succeedNext s else s

/-! ### HOLD (01 R17) -/

/-- The end of a HOLD: its count has reached D, and no survey it triggered keeps it waiting. -/
def holdEnd (dur : Nat) (s : State) : State :=
  match s.lsq.state, s.lsq.running with
  | .running, some r => if decide (dur ≤ r.holdCount) && !surveyWaits s.sve false then succeedNext s else s
  | _, _ => s

/-- A period of a HOLD: the count rises, and stays at D once there. -/
def holdStep (dur : Nat) (s : State) : State :=
  holdEnd dur (updRunning (fun r => { r with holdCount := min dur (r.holdCount + 1) }) s)

/-! ### CYCLE (01 R18, R19) -/

/-- The effective length a half-cycle takes when it opens. -/
def halfLength (caution : Bool) (half : Nat) : Nat := if caution then min (2 * half) 8192 else half

/-- P_k of 01 R18. -/
def halfLoad (h : Half) : Int :=
  h.start +
    roundDiv ((h.stop - h.start) * (3 * (h.k : Int) ^ 2 * h.len - 2 * (h.k : Int) ^ 3)) ((h.len : Int) ^ 3)

/-- The half-cycle of this period: the open one with k one greater, or a new one with k = 1. -/
def nextHalf (s : State) (r : Running) (valley peak : Int) (half : Nat) : Half :=
  match r.half with
  | some h => { h with k := h.k + 1 }
  | none =>
      { start := programLoad s, stop := if r.nextRising then peak else valley,
        len := halfLength s.ckm.caution half, k := 1, rising := r.nextRising }

/-- A period of a CYCLE.  One that was entered with cycles done already at its count or above, which only a WRITE SEGMENT
after the RESTART can bring about, runs one cycle and ends (DESIGN CHOICE, log 17). -/
def cycleStep (r : Running) (valley peak : Int) (half count : Nat) (s : State) : State × CycleNews :=
  let h := nextHalf s r valley peak half
  let opened := if r.half.isNone && h.rising then some (valley, peak) else none
  let s := s.updLsq fun q => { q with pFine := halfLoad h * 1024 }
  if h.k < h.len then
    (updRunning (fun r => { r with half := some h }) s, { noNews with opened := opened })
  else if h.rising then
    (updRunning (fun r => { r with half := none, nextRising := false }) s, { noNews with opened := opened })
  else
    let done := s.lsq.pos.cyclesDone + 1
    let news : CycleNews :=
      { noNews with ended := some { index := s.lsq.pos.index, cyclesDone := done, interrupted := r.interrupted } }
    let s := s.updLsq fun q => { q with pos := { q.pos with cyclesDone := done } }
    let s := updRunning (fun r => { r with half := none, nextRising := true, interrupted := false }) s
    (if count ≤ done then succeedNext s else s, news)

/-- A cycle in progress is interrupted by a period in PAUSED (01 R19, R25; log 10). -/
def markInterrupted (s : State) : State :=
  updRunning (fun r => if r.seg.isCycle then { r with interrupted := true } else r) s

/-! ### GATE (01 R21, R23) -/

/-- The consents a requirement names are recorded. -/
def Consent.given (c : Consent) (panel director : Bool) : Bool :=
  match c with
  | .panel => panel
  | .director => director
  | .both => panel && director

/-- Entering a GATE (R21): the STATE notice goes before the GATE notice (DEDUCED, log 9). -/
def enterGate (id : Nat) (need : Consent) (s : State) : State :=
  let s := seqBecome .gated (clearConsents s)
  announceSegment true (raise (.gate false id s.lsq.pos.index need) s)

/-- A period in GATED: a ready gate that no survey holds is left, and the GATE notice goes before the STATE notice of the
successor (R23; DEDUCED, log 9). -/
def gateStep (id : Nat) (need : Consent) (s : State) : State :=
  if need.given s.lsq.consentPanel s.lsq.consentDirector && !surveyWaits s.sve true then
    succeedNext (raise (.gate true id s.lsq.pos.index need) (clearConsents s))
  else s

/-! ### JUMP (01 R15) -/

def setRep (i : Nat) (r : Nat) (s : State) : State :=
  s.updLsq fun q => { q with prog := q.prog.modify i (fun e => { e with rep := some r }) }

def jumpStep (target count : Nat) (s : State) : State :=
  let i := s.lsq.pos.index
  let r := ((s.lsq.prog[i]?).bind (·.rep)).getD 0
  if count = 0 then succeed target s
  else if 0 < r then succeed target (setRep i (r - 1) s)
  else succeedNext (setRep i count s)

/-! ### Entering and working (01 R12, R13) -/

/-- A period of the running segment. -/
def workSegment (r : Running) (s : State) : State × CycleNews :=
  match r.seg with
  | .ramp target rate => (rampStep target rate s, noNews)
  | .hold dur _ => (holdStep dur s, noNews)
  | .cycle valley peak half count _ => cycleStep r valley peak half count s
  | .gate id need => (gateStep id need s, noNews)
  | .jump target count => (jumpStep target count s, noNews)

def newRunning (seg : Segment) : Running :=
  { seg := seg, holdCount := 0, half := none, nextRising := true, interrupted := false }

/-- The segment at the position is entered: working copy, STATE notice, announcements, and its first period. -/
def enterSegment (s : State) : State × CycleNews :=
  match s.lsq.prog[s.lsq.pos.index]? with
  | none => (s, noNews)
  | some e =>
      let s := s.updLsq fun q => { q with running := some (newRunning e.seg) }
      match e.seg with
      | .ramp target rate => (rampStep target rate (raiseState s), noNews)
      | .hold dur mark =>
          let s := updRunning (fun r => { r with holdCount := 1 }) (raiseState s)
          (holdEnd dur (if mark then announceSegment false s else s), noNews)
      | .cycle valley peak half count stiff =>
          let (s, news) := cycleStep (newRunning e.seg) valley peak half count (raiseState s)
          (s, { news with capture := stiff })
      | .gate id need => (enterGate id need s, noNews)
      | .jump target count => (jumpStep target count (raiseState s), noNews)

/-- A period of alignment: every offset moves; with all at 0 the state becomes RUNNING (01 R12, 02 R45). -/
def alignStep (s : State) : State :=
  let s := s.updActs fun a => { a with offset := moveToward 0 s.asa.alignRate a.offset }
  if s.asa.acts.cells.all (fun a => a.offset == 0) then seqBecome .running s else s

/-- The sequencer's part of a servo period; while UNLOADING the unload values move instead (02 R49). -/
def sequencerPeriod (s : State) : State × CycleNews :=
  match s.lsq.state with
  | .aligning => (alignStep s, noNews)
  | .running =>
      match s.lsq.running with
      | none => enterSegment s
      | some r => workSegment r s
  | .gated =>
      match s.lsq.running with
      | none => (s, noNews)
      | some r => workSegment r s
  | .paused _ => (markInterrupted s, noNews)
  | .unloading => (s.updActs Actuator.unloadMove, noNews)
  | .idle | .stopped | .done => (s, noNews)

/-- At this period a HOLD's count reaches its duration, or stands there (01 R17). -/
def holdExpires (s : State) : Bool :=
  match s.lsq.state, s.lsq.running with
  | .running, some r => (match r.seg with | .hold dur _ => decide (dur ≤ r.holdCount + 1) | _ => false)
  | .running, none =>
      match s.lsq.prog[s.lsq.pos.index]? with
      | some e => (match e.seg with | .hold dur _ => decide (dur ≤ 1) | _ => false)
      | none => false
  | _, _ => false

/-! ### The program's requests (01 R4 to R7) -/

/-- The longest program. -/
def maxProgram : Nat := 128

/-- A table entry as a write leaves it: a JUMP's repeat counter starts at its n. -/
def newEntry (seg : Segment) : ProgEntry :=
  { seg := seg, rep := match seg with | .jump _ n => some n | _ => none }

def appendSegment (arg : SegArg) (s : State) : State × Answer :=
  let len := s.lsq.prog.length
  if maxProgram ≤ len then (s, refuse .full)
  else
    match checkSegment (len + 1) arg with
    | none => (s, refuse .badField)
    | some (seg, clamped) =>
        (s.updLsq fun q => { q with prog := q.prog ++ [newEntry seg] },
          .reply (okOr clamped) (u8 len ++ u8 (len + 1)))

def writeSegment (index : Nat) (arg : SegArg) (s : State) : State × Answer :=
  let len := s.lsq.prog.length
  if index < len then
    match checkSegment len arg with
    | none => (s, refuse .badField)
    | some (seg, clamped) =>
        (s.updLsq fun q => { q with prog := q.prog.set index (newEntry seg) },
          .reply (okOr clamped) (u8 index))
  else (s, refuse .badField)

def clearProgram (s : State) : State × Answer :=
  if seqResting s then
    (seqBecome .idle
      (s.updLsq fun q => { q with prog := [], restart := none, pos := { index := 0, cyclesDone := 0 }, running := none }),
      .reply .ok [])
  else (s, refuse .wrongState)

def readSegment (index : Nat) (s : State) : State × Answer :=
  match s.lsq.prog[index]? with
  | none => (s, refuse .badField)
  | some e => (s, .reply .ok (u8 index ++ encSegment e.seg ++ u16 (e.rep.getD 0)))

/-! ### RUN and RESTART (01 R10, R11) -/

/-- ALIGNING with an empty claim set, else PAUSED with resume state ALIGNING. -/
def startState (c : Claims) : SeqState := if c.any then .paused .aligning else .aligning

def pruMayRun (s : State) : Bool :=
  match s.pru.state with
  | .armed | .holding => true
  | _ => false

/-- Every JUMP's counter back at its n. -/
def ProgEntry.rearm (e : ProgEntry) : ProgEntry :=
  match e.seg with
  | .jump _ n => { e with rep := some n }
  | _ => e

def run (s : State) : State × Answer :=
  if s.lsq.state = .idle ∧ pruMayRun s = true ∧ s.lsq.prog ≠ [] then
    let s := clearConsents
      (s.updLsq fun q =>
        { q with pos := { index := 0, cyclesDone := 0 }, running := none, prog := q.prog.map ProgEntry.rearm,
                 restart := none })
    (seqBecome (startState s.lsq.claims) s, .reply .ok [])
  else (s, refuse .wrongState)

/-- The cycles done a RESTART at `i` carries: those saved, if the saved index is `i` and a CYCLE stands there now. -/
def carriedCycles (s : State) (i : Nat) (seg : Segment) : Option Nat :=
  match s.lsq.restart with
  | some r => if r.index = i ∧ seg.isCycle = true then r.cycles else none
  | none => none

/-- R11, last check: the saved count has reached the count now in the table. -/
def carriedTooFar (seg : Segment) (cycles : Option Nat) : Bool :=
  match seg, cycles with
  | .cycle _ _ _ n _, some c => decide (n ≤ c)
  | _, _ => false

def restart (i : Nat) (s : State) : State × Answer :=
  if (s.lsq.state = .stopped ∨ s.lsq.state = .done) ∧ pruMayRun s = true then
    match s.lsq.prog[i]? with
    | none => (s, refuse .badField)
    | some e =>
        let carried := carriedCycles s i e.seg
        if carriedTooFar e.seg carried then (s, refuse .badField)
        else
          let s := clearConsents
            (s.updLsq fun q =>
              { q with pos := { index := i, cyclesDone := carried.getD 0 }, running := none, restart := none })
          (seqBecome (startState s.lsq.claims) s, .reply .ok (flag carried.isSome))
  else (s, refuse .wrongState)

/-! ### HOLD, RESUME, OPEN GATE (01 R22, R24) -/

def hold (l : Link) (s : State) : State × Answer :=
  let s := placeClaim (claimantOf l) s
  (s, .reply .ok (u8 s.lsq.claims.code))

def resume (l : Link) (s : State) : State × Answer :=
  let s := releaseClaim (claimantOf l) s
  (s, .reply .ok (u8 s.lsq.claims.code))

def recordConsent (l : Link) (s : State) : State :=
  s.updLsq fun q =>
    match l with
    | .panel => { q with consentPanel := true }
    | .director => { q with consentDirector := true }

/-- The id of the gate in force, from the working copy. -/
def gateId (s : State) : Option Nat :=
  if gateInForce s then
    match s.lsq.running with
    | some { seg := .gate id _, .. } => some id
    | _ => none
  else none

/-- OPEN GATE (R22).  The reply gives the consent slots PANEL first, then DIRECTOR: the rule names no order (log 13).
Id 0, which no gate has, is answered by R22's table like any other id that differs (DESIGN CHOICE, log 41). -/
def openGate (l : Link) (id : Nat) (s : State) : State × Answer :=
  match gateId s with
  | none => (s, refuse .notGated)
  | some g =>
      if id = g then
        let s := recordConsent l s
        (s, .reply .ok (flag s.lsq.consentPanel ++ flag s.lsq.consentDirector))
      else (s, refuse .staleGate)

/-! ### SEQUENCER STATUS (01 R28, 11 R199) -/

/-- HOLD progress: count, and whether the end waits on a survey. -/
def encHoldProgress (s : State) : List Byte :=
  match s.lsq.running with
  | some { seg := .hold _ _, holdCount := n, .. } => flag true ++ u32 n ++ flag (surveyWaits s.sve false)
  | _ => padTo 6 (flag false)

def runningHalf (s : State) : Option Half := s.lsq.running.bind (·.half)

/-- CYCLE progress, present with a CYCLE at the position, running or waiting (log 18): cycles done, the open half, the
interrupted mark. -/
def encCycleProgress (s : State) : List Byte :=
  if cycleAtPosition s then
    flag true ++ u32 s.lsq.pos.cyclesDone
      ++ (match runningHalf s with
          | some h => flag true ++ u8 (if h.rising then 0 else 1) ++ u16 h.k ++ u16 h.len
          | none => padTo 6 (flag false))
      ++ flag (s.lsq.running.elim false (·.interrupted))
  else padTo 12 (flag false)

/-- GATE progress: id, requirement, both consent slots, PANEL before DIRECTOR (no rule lays them out: log 13), whether
leaving waits on a survey. -/
def encGateProgress (s : State) : List Byte :=
  match gateInForce s, s.lsq.running with
  | true, some { seg := .gate id need, .. } =>
      flag true ++ u8 id ++ u8 need.code ++ flag s.lsq.consentPanel ++ flag s.lsq.consentDirector
        ++ flag (surveyWaits s.sve true)
  | _, _ => padTo 6 (flag false)

/-- SEQUENCER STATUS; an absent restart position is an absent index and an absent cycles done (log 13).  The position's
mark is 1 while the segment there runs and 0 else, in the states with nothing to enter too (DESIGN CHOICE, log 49). -/
def sequencerStatus (l : Link) (s : State) : State × Answer :=
  (s, .reply .ok
    (u8 s.lsq.state.code ++ u8? s.lsq.state.resumeCode? ++ u8 s.lsq.prog.length ++ u8 s.lsq.pos.index
      ++ flag s.lsq.running.isSome
      ++ (match s.lsq.running with
          | some r => flag true ++ encSegment r.seg
          | none => padTo 17 (flag false))
      ++ i32 (programLoad s) ++ encHoldProgress s ++ encCycleProgress s ++ encGateProgress s
      ++ u8 s.lsq.claims.code ++ flag s.ckm.caution
      ++ u8? (s.lsq.restart.map (·.index)) ++ present? 4 (s.lsq.restart.bind (·.cycles))
      ++ flag (s.link l).lost))

end Sys2Proof.Machine
end

