-- ==== Sys2Proof/Machine/Cycles.lean ====
section
/-! DEFINITION. The Cycle Accounting Unit (03): the cycle window, judgement, counters, tracking, stiffness, CYCLE records,
and the unit's own requests. -/

namespace Sys2Proof.Machine

/-! ### Capture and window (03 R56, R57, R64) -/

/-- The actuators that count at this period, in index order. -/
def countingActs (s : State) : List (Fin 8) := (allFin 8).filter (fun i => (s.act i).counts)

/-- A CYCLE entered with its option puts every counting actuator into CAPTURING, its drop run at 0. -/
def beginCapture (s : State) : State :=
  let on (i : Nat) : Bool := (s.act (Fin.ofNat 8 i)).counts
  s.updCau fun c =>
    { c with refs := c.refs.mapIdx fun i r => if on i then .capturing 0 0 else r
             dropRuns := c.dropRuns.mapIdx fun i n => if on i then 0 else n }

/-- A rising half opens a window; one still open is closed without judgement. -/
def openWindow (valley peak : Int) (s : State) : State :=
  let acts := (countingActs s).map (fun i => ({ act := i, peak := none, valley := none } : QualAct))
  s.updCau fun c => { c with window := some { acts := acts, peakLoad := peak, valleyLoad := valley } }

/-- A period's force and displacement enter the extremes; an equal force leaves the earlier one. -/
def QualAct.follow (force disp : Int) (q : QualAct) : QualAct :=
  let new : Extreme := { force := force, disp := disp }
  { q with
    peak := some (match q.peak with | some p => if p.force < force then new else p | none => new)
    valley := some (match q.valley with | some v => if force < v.force then new else v | none => new) }

def Window.follow (s : State) (w : Window) : Window :=
  { w with acts := w.acts.map fun q => q.follow (s.act q.act).force (s.act q.act).disp }

def followWindow (s : State) : State := s.updCau fun c => { c with window := c.window.map (Window.follow s) }

/-! ### Judgement (03 R60, R63) -/

/-- The setpoint of an actuator at a program load, with offset 0. -/
def ActCfg.loadSetpoint (c : ActCfg) (load : Int) : Int := c.window (roundDiv (load * c.share) 1000)

/-- Within the peak tolerance at both extremes. -/
def QualAct.inTolerance (c : ActCfg) (w : Window) (q : QualAct) : Bool :=
  match q.peak, q.valley with
  | some p, some v =>
      decide ((p.force - c.loadSetpoint w.peakLoad).natAbs ≤ c.peakTol)
        && decide ((v.force - c.loadSetpoint w.valleyLoad).natAbs ≤ c.peakTol)
  | _, _ => false

/-- The judgement, from each qualifying actuator's in-tolerance test. -/
def judge (interrupted : Bool) (tests : List Bool) : Judgement :=
  if interrupted || tests.isEmpty then .notJudged
  else if tests.all id then .achieved
  else .outOfTolerance

/-- The stiffness of one actuator, absent below the minimum stroke. -/
def QualAct.stiffness (stroke : Nat) (q : QualAct) : Option Nat :=
  match q.peak, q.valley with
  | some p, some v =>
      if (stroke : Int) ≤ p.disp - v.disp then
        some (roundDiv ((p.force - v.force) * 1000) (p.disp - v.disp)).toNat
      else none
  | _, _ => none

/-- One actuator of a completed cycle. -/
structure JudgedAct where
  qual : QualAct
  inTol : Bool
  stiffness : Option Nat
deriving DecidableEq, Repr

/-! ### Counters and runs (03 R61, R62, R64, R66) -/

/-- R61: the total and the judgement's counter, unless counting has stopped. -/
def Cau.count (j : Judgement) (c : Cau) : Cau :=
  if c.total < max32 then
    match j with
    | .achieved => { c with total := c.total + 1, achieved := c.achieved + 1 }
    | .outOfTolerance => { c with total := c.total + 1, outTol := c.outTol + 1 }
    | .notJudged => { c with total := c.total + 1, notJudged := c.notJudged + 1 }
  else c

/-- R62: the tracking run, and whether it raises TRACKING. -/
def Cau.track (j : Judgement) (c : Cau) : Cau × Bool :=
  match j with
  | .achieved => ({ c with trackRun := 0 }, false)
  | .notJudged => (c, false)
  | .outOfTolerance =>
      if c.cfg.tracking ≤ c.trackRun + 1 then ({ c with trackRun := 0 }, true)
      else ({ c with trackRun := min 255 (c.trackRun + 1) }, false)

/-- R64: a CAPTURING reference takes a stiffness. -/
def StiffRef.take (m k : Nat) (r : StiffRef) : StiffRef :=
  match r with
  | .capturing n sum =>
      if m ≤ n + 1 then .valid (roundDiv ((sum + k : Nat) : Int) ((n + 1 : Nat) : Int)).toNat
      else .capturing (n + 1) (sum + k)
  | _ => r

/-- R66: below the drop threshold of a VALID reference. -/
def belowDrop (drop ref k : Nat) : Bool := decide (k * 1000 < ref * (1000 - drop))

/-- R66: the drop run of an actuator whose reference was VALID before the completion, and whether it raises STIFFNESS
(log 15). -/
def dropTest (cfg : CycleCfg) (r : StiffRef) (k run : Nat) : Nat × Bool :=
  match r with
  | .valid ref =>
      if belowDrop cfg.drop ref k then
        if cfg.dropRun ≤ run + 1 then (0, true) else (min 255 (run + 1), false)
      else (0, false)
  | _ => (run, false)

/-- One actuator's capture and drop run at a completion; the subjects of STIFFNESS grow. -/
def stiffStep (acc : Cau × List Nat) (a : JudgedAct) : Cau × List Nat :=
  match a.stiffness with
  | none => acc
  | some k =>
      let c := acc.1
      let i := a.qual.act
      let d := dropTest c.cfg (c.refs.get i) k (c.dropRuns.get i)
      ({ c with refs := c.refs.modify i (StiffRef.take c.cfg.capture k), dropRuns := c.dropRuns.set i d.1 },
        if d.2 then acc.2 ++ [i.val] else acc.2)

/-! ### Records (03 R67, R68) -/

/-- An actuator entry of a CYCLE record, the references as updated. -/
def cycleAct (s : State) (w : Window) (judged : Bool) (a : JudgedAct) : CycleAct :=
  let cfg := (s.act a.qual.act).cfg
  { act := a.qual.act, peakSet := cfg.loadSetpoint w.peakLoad, valleySet := cfg.loadSetpoint w.valleyLoad,
    peak := a.qual.peak, valley := a.qual.valley, inTol := if judged then some a.inTol else none,
    stiffness := a.stiffness, ref := s.cau.refs.get a.qual.act }

/-- A kept cycle's record is offered; a refusal is counted. -/
def offerCycle (b : CycleBody) (s : State) : State :=
  match offerRecord (.cycle b) s with
  | (s', some _) => s'
  | (s', none) => s'.updCau fun c => { c with lost := min max32 (c.lost + 1) }

/-- Events of this cycle are reported. -/
def reportSubjects (k : CauseKind) (subjects : List Nat) (s : State) : State :=
  if subjects.isEmpty then s else eventReport k subjects s

/-! ### The completion (03 R59) -/

/-- The eight steps of R59, after the period's values have entered the extremes.  Of the events of step 7, TRACKING is
reported before STIFFNESS (DESIGN CHOICE, log 39). -/
def completeCycle (e : CycleEnd) (w : Window) (s : State) : State :=
  let tests := w.acts.map fun q => q.inTolerance (s.act q.act).cfg w
  let j := judge e.interrupted tests
  let judged := !(j == .notJudged)
  let acts : List JudgedAct := w.acts.map fun q =>
    { qual := q, inTol := q.inTolerance (s.act q.act).cfg w,
      stiffness := if judged then q.stiffness s.cau.cfg.stroke else none }
  let counted := decide (s.cau.total < max32)
  let (c1, tracking) := (s.cau.count j).track j
  let (c2, drops) := acts.foldl stiffStep (c1, [])
  let s1 := s.updCau fun _ => c2
  let total := c2.total
  let cycleActs := acts.map (cycleAct s1 w judged)
  let s2 := announceCompletion total s1
  let decimation := decide (0 < c2.cfg.decimation) && counted && total % c2.cfg.decimation == 0
  let exception := c2.cfg.exceptions && j == .outOfTolerance
  let s3 :=
    if decimation || exception then
      offerCycle
        { decimation := decimation, exception := exception, total := total, counted := counted, index := e.index,
          cyclesDone := e.cyclesDone, judgement := j, interrupted := e.interrupted, acts := cycleActs } s2
    else s2
  let outs := (acts.filter (fun a => !a.inTol)).map (fun a => a.qual.act.val)
  let s4 := reportSubjects .stiffness drops (reportSubjects .tracking (if tracking then outs else []) s3)
  let last : LastCycle :=
    { total := total, judgement := j, interrupted := e.interrupted
      acts := acts.map fun a =>
        { act := a.qual.act, inTol := if judged then some a.inTol else none, stiffness := a.stiffness } }
  s4.updCau fun c => { c with window := none, last := some last }

/-- CAU's part of a servo period, with SVE told of the window and given the period's Pm (05 R104, R107). -/
def cyclePeriod (news : CycleNews) (s : State) : State :=
  let s := if news.capture then beginCapture s else s
  let s := match news.opened with
    | some (v, k) => announceWindow (openWindow v k s)
    | none => s
  let s := followWindow (addLoads s)
  match news.ended, s.cau.window with
  | some e, some w => completeCycle e w s
  | _, _ => s

/-! ### Requests (03 R65, R69 to R71) -/

def setCycleAccounting (arg : CycleArg) (s : State) : State × Answer :=
  match checkCycle arg with
  | none => (s, refuse .badField)
  | some (cfg, clamped) =>
      (s.updCau fun c => { c with cfg := cfg }, .reply (okOr clamped) (encCycleCfg cfg))

def resetCycleCounters (s : State) : State × Answer :=
  (s.updCau fun c => { c with total := 0, achieved := 0, outTol := 0, notJudged := 0, lost := 0 }, .reply .ok [])

def setRef (i : Fin 8) (r : StiffRef) (s : State) : State :=
  s.updCau fun c => { c with refs := c.refs.set i r, dropRuns := c.dropRuns.set i 0 }

def setStiffnessReference (index value : Nat) (s : State) : State × Answer :=
  match index? 8 index with
  | none => (s, refuse .badField)
  | some i =>
      let v := clampN 1 2000000000 value
      (setRef i (.valid v.1) s, .reply (okOr v.2) (encStiffRef (.valid v.1)))

def clearStiffnessReference (index : Nat) (s : State) : State × Answer :=
  match index? 8 index with
  | none => (s, refuse .badField)
  | some i => (setRef i .none s, .reply .ok (encStiffRef .none))

/-- A qualifying actuator of the open window as READ CYCLES gives it: an entry of a list, with its index (log 13). -/
def encQualAct (s : State) (w : Window) (q : QualAct) : List Byte :=
  let cfg := (s.act q.act).cfg
  u8 q.act.val ++ i32? (q.peak.map (·.force)) ++ i32? (q.peak.map (·.disp)) ++ i32? (q.valley.map (·.force))
    ++ i32? (q.valley.map (·.disp)) ++ i32 (cfg.loadSetpoint w.peakLoad) ++ i32 (cfg.loadSetpoint w.valleyLoad)

/-- A qualifying actuator of the last cycle: an entry of a list, with its index (log 13). -/
def encLastAct (a : LastAct) : List Byte :=
  u8 a.act.val ++ present? 1 (a.inTol.map Bool.toNat) ++ present? 4 a.stiffness

/-- READ CYCLES (R70; log 13). -/
def readCycles (s : State) : List Byte :=
  let c := s.cau
  u32 c.total ++ u32 c.achieved ++ u32 c.outTol ++ u32 c.notJudged ++ flag (c.total == max32) ++ u32 c.lost
    ++ encCycleCfg c.cfg ++ u8 c.trackRun
    ++ (match c.window with
        | some w => flag true ++ listOf (w.acts.map (encQualAct s w))
        | none => flag false ++ listOf [])
    ++ ((allFin 8).map fun i => encStiffRef (c.refs.get i) ++ u8 (c.dropRuns.get i)).flatten
    ++ (match c.last with
        | some l =>
            flag true ++ u32 l.total ++ u8 l.judgement.code ++ flag l.interrupted ++ listOf (l.acts.map encLastAct)
        | none => padTo 8 (flag false))

end Sys2Proof.Machine
end

