-- ==== Sys2Proof/Machine/Strain.lean ====
section
/-! DEFINITION. The Strain Scan Unit (04): scans, silence of bridge modules, the deviation check, and the unit's own
requests. -/

namespace Sys2Proof.Machine

/-! ### Converting a scan (04 R79) -/

/-- The strain of a ratio, in tenths of a microstrain. -/
def strainOf (bridge gfm : Nat) (zero ratio : Int) : Int := roundDiv (10 * bridge * (ratio - zero)) gfm

/-- A ratio that an arrival may give as valid. -/
def goodRatio (r : RatioIn) : Bool := !r.overRange && decide (r.ratio.natAbs ≤ 8000000)

/-- A mapped input becomes its gauge's latest value. -/
def Gauge.convert (now : Nat) (r : RatioIn) (g : Gauge) : Gauge :=
  if goodRatio r then
    { g with ratio := r.ratio, at_ := now, strain := strainOf g.bridge g.gfm g.zero r.ratio, validity := .valid }
  else { g with ratio := r.ratio, at_ := now, validity := .overRange }

/-- The input of a scan that a gauge reads. -/
def Gauge.reads (m : Fin 16) (inputs : List RatioIn) (g : Gauge) : Option RatioIn :=
  match g.mapping with
  | some (m', i) => if m' = m then inputs[i.val]? else none
  | none => none

/-- The gauges that the scan converts, in rising order. -/
def scannedGauges (m : Fin 16) (inputs : List RatioIn) (s : State) : List (Fin 256) :=
  (allFin 256).filter (fun g => ((s.gauge g).reads m inputs).isSome)

def convertScan (m : Fin 16) (inputs : List RatioIn) (s : State) : State :=
  s.updSsu fun u =>
    { u with gauges := u.gauges.map fun g =>
        match g.reads m inputs with
        | some r => g.convert s.now r
        | none => g }

/-! ### The deviation check (04 R86, R87) -/

/-- The strain the reference line gives at a load. -/
def expectedStrain (pLo epsLo slope pm : Int) : Int := epsLo + roundDiv (slope * (pm - pLo)) 65536

/-- No deviation is computed in SAFE and DUMPED. -/
def deviates (p : PState) : Bool :=
  match p with
  | .safe | .dumped => false
  | _ => true

/-- The check of one gauge at a VALID arrival.  A condition that holds goes on holding until the run is 0 (log 34). -/
def Gauge.check (p : PState) (pm : Int) (g : Gauge) : Gauge :=
  match g.ref with
  | .valid pLo epsLo slope =>
      if g.checked && g.validity == .valid then
        if deviates p then
          let d := g.strain - expectedStrain pLo epsLo slope pm
          if (g.band : Int) < d.natAbs then
            let run := min 255 (g.devRun + 1)
            let holds := g.devHolds || decide (g.confirm ≤ run)
            { g with lastDev := some d, devRun := run, devHolds := holds, devFlag := g.devFlag || (holds && !g.devHolds) }
          else { g with lastDev := some d, devRun := 0, devHolds := false }
        else { g with lastDev := none, devRun := 0, devHolds := false }
      else g
  | _ => g

/-- Step 3 for the gauges of a scan, and the changes it found. -/
def checkScan (gs : List (Fin 256)) (s : State) : State × List Report :=
  let p := s.pru.state
  let pm := s.asa.pm
  let s' := gs.foldl (fun s g => s.updGauge g (Gauge.check p pm)) s
  (s', gs.flatMap fun g => changeReport .deviation g.val (s.gauge g).devHolds (s'.gauge g).devHolds)

/-- What the scan offers for one gauge. -/
def offerOf (s : State) (g : Fin 256) : OfferVal :=
  { gauge := g, ratio := (s.gauge g).ratio, strain := (s.gauge g).strain,
    valid := (s.gauge g).validity == .valid }

/-- Step 5: a condition that the scan started is reported as started, and as ended where a hand-over of step 4 has
already ended it (log 11). -/
def reportDeviation (s : State) (r : Report) : State :=
  let s' := takeReport s r
  if r.start && !(s'.gauge (Fin.ofNat 256 r.subject)).devHolds then endReport .deviation r.subject s' else s'

/-! ### Arrivals and silence (04 R73, R74) -/

/-- Step 1: the last-arrival time, and the end of a silence. -/
def moduleArrival (m : Fin 16) (s : State) : State :=
  let silent := (s.module m).silent
  let s := s.updModule m fun _ => { last := s.now, silent := false }
  if silent then endReport .frontendSilent (moduleSubject m) s else s

/-- Steps 1 to 3 of R73, and the deviation reports they found. -/
def convertedScan (m : Fin 16) (inputs : List RatioIn) (s : State) : State × List Report :=
  let s1 := convertScan m inputs (moduleArrival m s)
  checkScan (scannedGauges m inputs s1) s1

/-- A scan, whole (R73); a module number outside 0..15 is discarded. -/
def takeScan (module : Nat) (inputs : List RatioIn) (s : State) : State :=
  match index? 16 module with
  | none => s
  | some m =>
      let (s1, rs) := convertedScan m inputs s
      let s2 := offerScan ((scannedGauges m inputs s1).map (offerOf s1)) s1
      rs.foldl reportDeviation s2

/-- With the scan's values a collection has its last arrival: the plan's or the demand's (05 R104). -/
def scanEndsCollection (module : Nat) (inputs : List RatioIn) (s : State) : Bool :=
  match index? 16 module with
  | none => false
  | some m =>
      let (s1, _) := convertedScan m inputs s
      let vals := (scannedGauges m inputs s1).map (offerOf s1)
      let ends (c : Collection) : Bool := (c.take vals).finished
      (s1.sve.state == .collecting && s1.sve.collector.elim false ends)
        || (match s1.sve.work with | .collecting c => ends c | _ => false)

/-- 100 hundredths have gone by since `last` (04 R74, 07 R138, R143). -/
def overdue (now last : Nat) : Bool := decide (100 ≤ elapsed now last)

/-- The module becomes SILENT at this advance of hall time. -/
def moduleDue (s : State) (m : Fin 16) : Bool :=
  moduleInUse s m && !(s.module m).silent && overdue s.now (s.module m).last

/-- A module becomes SILENT: its gauges invalid, the collectors told, FRONTEND_SILENT started. -/
def silenceModule (m : Fin 16) (s : State) : State :=
  let gs := gaugesOf s m
  let s := s.updModule m fun r => { r with silent := true }
  let s := s.updSsu fun u =>
    { u with gauges := u.gauges.map fun g => if g.onModule m then { g with validity := .silent } else g }
  startReport .frontendSilent (moduleSubject m) (tellSilence gs s)

/-! ### MAP GAUGE and UNMAP GAUGE (04 R77, R78) -/

/-- The input is held by another gauge. -/
def heldByOther (s : State) (g : Fin 256) (input : Fin 16 × Fin 16) : Bool :=
  (allFin 256).any (fun h => !(h == g) && (s.gauge h).mapping == some input)

/-- The settings of an accepted MAP GAUGE. -/
def GaugeSet.write (c : GaugeSet) (g : Gauge) : Gauge :=
  { g with mapping := some c.input, bridge := c.bridge, gfm := c.gfm, watch := c.watch, band := c.band,
           confirm := c.confirm }

/-- A gauge record as it stands in a reply. -/
def gaugeReply (s : State) (g : Fin 256) : List Byte := encGauge g (s.gauge g)

/-- The module a mapping names may have gone out of use. -/
def leaveInput (mapping : Option (Fin 16 × Fin 16)) (s : State) : State :=
  match mapping with
  | some (m, _) => leaveModule m s
  | none => s

/-- The effects of the settings that changed. -/
def remap (c : GaugeSet) (old : Gauge) (s : State) : State :=
  let g := c.gauge
  let s := s.updGauge g c.write
  if old.mapping ≠ some c.input then
    leaveInput old.mapping
      (dropDeviation g (s.updGauge g fun r => { r with zero := 0, ref := .none, validity := .noneYet }))
  else if old.bridge ≠ c.bridge ∨ old.gfm ≠ c.gfm then
    dropDeviation g (s.updGauge g fun r => { r with ref := .none, validity := .noneYet })
  else if old.watch && !c.watch then dropDeviation g s
  else s

def mapGauge (arg : GaugeArg) (s : State) : State × Answer :=
  match checkGauge arg with
  | none => (s, refuse .badField)
  | some c =>
      let old := s.gauge c.gauge
      let changes := decide (old.mapping ≠ some c.input ∨ old.bridge ≠ c.bridge ∨ old.gfm ≠ c.gfm)
      if heldByOther s c.gauge c.input then (s, refuse .inUse)
      else if changes && gathering s c.gauge then (s, refuse .busy)
      else
        let s := remap c old s
        (s, .reply (okOr c.clamped) (gaugeReply s c.gauge))

def unmapGauge (gauge : Nat) (s : State) : State × Answer :=
  match index? 256 gauge with
  | none => (s, refuse .badField)
  | some g =>
      if gathering s g then (s, refuse .busy)
      else
        match (s.gauge g).mapping with
        | none => (s, .reply .ok (gaugeReply s g))
        | some mi =>
            let s := s.updGauge g fun r =>
              { r with mapping := none, zero := 0, ref := .none, validity := .noneYet }
            let s := leaveInput (some mi) (dropDeviation g s)
            (s, .reply .ok (gaugeReply s g))

/-! ### Zeros, groups, references (04 R81, R82, R85) -/

def setZero (gauge : Nat) (zero : Int) (s : State) : State × Answer :=
  match index? 256 gauge with
  | none => (s, refuse .badField)
  | some g =>
      if gathering s g then (s, refuse .busy)
      else
        let z := clampI (-8000000) 8000000 zero
        let s := changeZero g z.1 s
        (s, .reply (okOr z.2) (gaugeReply s g))

/-- SET GROUP (R82); the reply's group is its index and its list (log 13). -/
def setGroup (group : Nat) (gauges : List Nat) (s : State) : State × Answer :=
  match index? 32 group, checkGroup gauges with
  | some i, some l =>
      (s.updSsu fun u => { u with groups := u.groups.set i l },
        .reply .ok (u8 i.val ++ listOf (l.map fun g => u8 g.val)))
  | _, _ => (s, refuse .badField)

/-- How many of the gauges have a reference. -/
def referenced (s : State) (gs : List (Fin 256)) : Nat := gs.countP (fun g => !((s.gauge g).ref == .none))

def clearReferences (gs : List (Fin 256)) (s : State) : State := gs.foldl (fun s g => clearRef g s) s

def clearReference (gauge : Nat) (s : State) : State × Answer :=
  match index? 256 gauge with
  | none => (s, refuse .badField)
  | some g => (clearReferences [g] s, .reply .ok (u16 (referenced s [g])))

def clearReferenceAll (s : State) : State × Answer :=
  (clearReferences (allFin 256) s, .reply .ok (u16 (referenced s (allFin 256))))

/-! ### READ GAUGES (04 R89) -/

def encModule (s : State) (m : Fin 16) : List Byte :=
  flag (moduleInUse s m) ++ flag (s.module m).silent ++ u32 (s.module m).last

def gaugesReply (s : State) (groupLength : Nat) (gs : List (Fin 256)) : List Byte :=
  u8 groupLength ++ listOf (gs.map (gaugeReply s)) ++ ((allFin 16).map (encModule s)).flatten

def readGaugesByRange (first count : Nat) (s : State) : State × Answer :=
  if first < 256 ∧ 1 ≤ count ∧ count ≤ 16 then
    (s, .reply .ok (gaugesReply s 0 (((allFin 256).drop first).take count)))
  else (s, refuse .badField)

def readGaugesByGroup (group start count : Nat) (s : State) : State × Answer :=
  match index? 32 group with
  | none => (s, refuse .badField)
  | some i =>
      if start < 64 ∧ 1 ≤ count ∧ count ≤ 16 then
        let l := s.ssu.groups.get i
        (s, .reply .ok (gaugesReply s l.length ((l.drop start).take count)))
      else (s, refuse .badField)

end Sys2Proof.Machine
end

