-- ==== Sys2Proof/Machine/Crack.lean ====
section
/-! DEFINITION. The Crack Monitor (07): loops, acoustic-emission channels, silence, caution, and the monitor's own
requests. -/

namespace Sys2Proof.Machine

/-! ### Loops (07 R136, R137) -/

/-- Debounce a USED loop on its continuity; an UNUSED loop keeps its state and count. -/
def LoopRec.debounceOn (isOpen : Bool) (l : LoopRec) : LoopRec :=
  if l.used then
    if isOpen == l.broken then { l with count := 0 }
    else if l.debounce ≤ l.count + 1 then { l with broken := isOpen, count := 0 }
    else { l with count := l.count + 1 }
  else l

/-- Steps 2 and 3 for one loop. -/
def LoopRec.sample (isOpen : Bool) (l : LoopRec) : LoopRec :=
  LoopRec.debounceOn isOpen { l with last := some isOpen }

/-- Step 1: the last-sample time, and the end of the front-end's silence. -/
def frontendArrival (s : State) : State :=
  let silent := s.ckm.feSilent
  let s := s.updCkm fun k => { k with feLast := s.now, feSilent := false }
  if silent then endReport .frontendSilent frontendSubject s else s

/-- A loop sample, whole (R136).  The starts and ends it brings reach PRU by rising loop number (DESIGN CHOICE,
log 52). -/
def takeSample (opens : List Bool) (s : State) : State :=
  let s1 := frontendArrival s
  let s2 := s1.updCkm fun k =>
    { k with loops := k.loops.mapIdx fun i l =>
        match opens[i]? with
        | some o => l.sample o
        | none => l }
  takeReports
    ((allFin 32).flatMap fun i => changeReport .crackLoop i.val (s1.loop i).broken (s2.loop i).broken) s2

/-- The crack front-end becomes SILENT at this advance of hall time (R138). -/
def frontendDue (s : State) : Bool := frontendInUse s && !s.ckm.feSilent && overdue s.now s.ckm.feLast

def silenceFrontend (s : State) : State :=
  startReport .frontendSilent frontendSubject (s.updCkm fun k => { k with feSilent := true })

/-! ### Channels and caution (07 R141 to R144) -/

/-- The caution flag turns on: the hall time is kept and a CAUTION notice raised. -/
def turnCautionOn (i : Fin 8) (s : State) : State :=
  let s := s.updCkm fun k => { k with caution := true, cautionAt := some s.now }
  raise (.caution true s.now (some i) (s.chan i).sum (s.chan i).warn (channelsAbove s)) s

/-- The sum of a USED channel is judged: caution first, then the start or end of AE_ALARM (R142). -/
def judgeChannel (i : Fin 8) (s : State) : State :=
  let c := s.chan i
  let above := decide (c.alarm ≤ c.sum)
  let s := if decide (c.warn ≤ c.sum) && !s.ckm.caution then turnCautionOn i s else s
  let s := s.updChan i fun r => { r with aeAlarm := above }
  takeReports (changeReport .aeAlarm i.val c.aeAlarm above) s

/-- The oldest window count leaves the ring and the new one enters. -/
def Channel.push (hits : Nat) (c : Channel) : Channel :=
  { c with ring := c.ring.tail ++ [hits], sum := c.sum - c.ring.headD 0 + hits }

/-- Step 2 of R141: a SILENT channel's silence ends. -/
def endChannelSilence (i : Fin 8) (s : State) : State :=
  if (s.chan i).silent then
    endReport .frontendSilent (channelSubject i) (s.updChan i fun c => { c with silent := false })
  else s

/-- A window report (R141); a channel number outside 0..7 is discarded. -/
def takeWindow (chan hits : Nat) (s : State) : State :=
  match index? 8 chan with
  | none => s
  | some i =>
      let s := s.updChan i fun c => { c with last := s.now }
      if (s.chan i).used then judgeChannel i ((endChannelSilence i s).updChan i (Channel.push hits)) else s

/-- The channel becomes SILENT at this advance of hall time (R143). -/
def channelDue (s : State) (i : Fin 8) : Bool :=
  (s.chan i).used && !(s.chan i).silent && overdue s.now (s.chan i).last

def silenceChannel (i : Fin 8) (s : State) : State :=
  startReport .frontendSilent (channelSubject i) (s.updChan i fun c => { c with silent := true })

/-! ### SET LOOP (07 R135) -/

/-- A loop record as replies carry it. -/
def encLoop (l : LoopRec) : List Byte :=
  flag l.used ++ flag l.broken ++ u8 l.debounce ++ u8 l.level.code ++ u8 l.count ++ u8? (l.last.map Bool.toNat)

/-- The running state and settings after an accepted SET LOOP. -/
def LoopRec.store (used : Bool) (debounce : Nat) (level : Level) (l : LoopRec) : LoopRec :=
  if used == l.used then { l with debounce := debounce, level := level }
  else { l with used := used, debounce := debounce, level := level, broken := false, count := 0 }

/-- A new break level of a loop latched for an ENABLED CRACK_LOOP is evaluated at once (08 R153). -/
def tellBreakLevel (i : Fin 32) (changed : Bool) (s : State) : State :=
  let c := s.cause .crackLoop
  if changed && c.latched.contains i.val && !c.masked then evaluate [] s else s

/-- The last USED loop is gone: the front-end is out of use and its silence ends. -/
def leaveFrontend (s : State) : State :=
  if !frontendInUse s && s.ckm.feSilent then
    endReport .frontendSilent frontendSubject (s.updCkm fun k => { k with feSilent := false })
  else s

/-- SET LOOP (R135).  The ends it brings are reported before a changed break level is judged (DESIGN CHOICE, log 46). -/
def setLoop (loop use debounce level : Nat) (s : State) : State × Answer :=
  match index? 32 loop, bool? use, breakLevel? level with
  | some i, some u, some lv =>
      let b := clampN 1 255 debounce
      let old := s.loop i
      let s := s.updLoop i (LoopRec.store u b.1 lv)
      let s := takeReports (changeReport .crackLoop i.val old.broken (s.loop i).broken) s
      let s := tellBreakLevel i (old.level != lv) (leaveFrontend s)
      (s, .reply (okOr b.2) (u8 i.val ++ encLoop (s.loop i)))
  | _, _, _ => (s, refuse .badField)

/-! ### SET AE CHANNEL (07 R140) -/

/-- A channel record as replies carry it, without its ring. -/
def encChannel (c : Channel) : List Byte :=
  flag c.used ++ u8 c.window ++ u32 c.warn ++ u32 c.alarm ++ u32 c.sum ++ flag c.silent ++ u32 c.last
    ++ flag c.aeAlarm

/-- A channel in the SUMMARY of 07 R147: the record, and whether S ≥ Tw. -/
def encChannelStatus (c : Channel) : List Byte := encChannel c ++ flag (decide (c.warn ≤ c.sum))

/-- The settings of an accepted request; a change of use or of W restarts the ring, which ends AE_ALARM. -/
def Channel.store (used : Bool) (window warn alarm : Nat) (c : Channel) : Channel :=
  if used == c.used && window == c.window then { c with warn := warn, alarm := alarm }
  else
    { c with used := used, window := window, warn := warn, alarm := alarm, ring := List.replicate window 0, sum := 0,
             silent := used && c.silent, aeAlarm := false }

/-- Whether a request changes any of a channel's settings. -/
def channelChanges (c old : Channel) : Bool :=
  c.used != old.used || c.window != old.window || c.warn != old.warn || c.alarm != old.alarm

def setAeChannel (chan use window warn alarm : Nat) (s : State) : State × Answer :=
  match index? 8 chan, bool? use with
  | some i, some u =>
      let w := clampN 1 64 window
      let a := clampN 1 4194240 alarm
      let t := clampN 1 a.1 warn
      let old := s.chan i
      let s := s.updChan i (Channel.store u w.1 t.1 a.1)
      let new := s.chan i
      let s := takeReports
        (changeReport .aeAlarm i.val old.aeAlarm new.aeAlarm
          ++ changeReport .frontendSilent (channelSubject i) old.silent new.silent) s
      let s := if u && channelChanges new old then judgeChannel i s else s
      (s, .reply (okOr (w.2 || a.2 || t.2)) (u8 i.val ++ encChannel (s.chan i)))
  | _, _ => (s, refuse .badField)

/-! ### CLEAR CAUTION (07 R145) -/

def clearCaution (s : State) : State × Answer :=
  let above := channelsAbove s
  if above.isEmpty then
    if s.ckm.caution then
      (raise (.caution false s.now none 0 0 []) (s.updCkm fun k => { k with caution := false }), .reply .ok [])
    else (s, .reply .ok [])
  else (s, .reply .causeLatched (bitmap 1 above))

/-! ### READ CRACK STATUS (07 R147) -/

/-- The SUMMARY form (R147): the 32 loops and the 8 channels bare, in order, with no list count (no rule lays them out:
log 13). -/
def readCrackStatusSummary (l : Link) (s : State) : State × Answer :=
  let k := s.ckm
  (s, .reply .ok
    ((k.loops.cells.map encLoop).flatten ++ flag (frontendInUse s) ++ flag k.feSilent ++ u32 k.feLast
      ++ (k.chans.cells.map encChannelStatus).flatten ++ flag k.caution ++ present? 4 k.cautionAt
      ++ flag (s.link l).lost))

/-- The RING form (R147): W stands for the count of the ring's entries, which no other count precedes (log 13). -/
def readCrackStatusRing (l : Link) (chan : Nat) (s : State) : State × Answer :=
  match index? 8 chan with
  | none => (s, refuse .badField)
  | some i =>
      let c := s.chan i
      (s, .reply .ok (u8 c.window ++ (c.ring.map u16).flatten ++ u32 c.sum ++ flag (s.link l).lost))

end Sys2Proof.Machine
end

