-- ==== Sys2Proof/Machine/Surveys.lean ====
section
/-! DEFINITION. The requests of the Survey Engine (05 R93 to R95, R100, R111 to R113, R117) and of the Capture Store
(06 R127 to R131). -/

namespace Sys2Proof.Machine

/-! ### The plan table (05 R93, R94) -/

def planBusy (v : Sve) : Bool :=
  match v.state with
  | .waiting | .collecting | .stalled => true
  | _ => false

/-- The entry is complete and carries the number of the set now open. -/
def inOpenSet (s : State) (i : Fin 64) : Bool :=
  match s.sve.openSet, s.entry i with
  | some _, some e => e.complete && e.setNo == some s.sve.setCounter
  | _, _ => false

def writePlanEntry (arg : PlanArg) (s : State) : State × Answer :=
  match checkPlanEntry arg with
  | none => (s, refuse .badField)
  | some (i, e, clamped) =>
      if s.sve.current == some i && planBusy s.sve then (s, refuse .busy)
      else if inOpenSet s i then (s, refuse .busy)
      else (s.setEntry i (some e), .reply (okOr clamped) (encPlanEntry i e))

def setPlanMode (mode last : Nat) (s : State) : State × Answer :=
  match bool? mode, index? 64 last with
  | some m, some j =>
      (s.updSve fun v => { v with modeLast := m, lastIndex := j }, .reply .ok (flag m ++ u8 j.val))
  | _, _ => (s, refuse .badField)

def setSurveySettings (zeroWindow minSpan : Int) (s : State) : State × Answer :=
  let z := clampI 0 1000000 zeroWindow
  let m := clampI 1 2000000 minSpan
  (s.updSve fun v => { v with zeroWindow := z.1, minSpan := m.1 }, .reply (okOr (z.2 || m.2)) (i32 z.1 ++ i32 m.1))

/-! ### Walking (05 R95, R100, R111) -/

/-- START PLAN (R95).  A set that stands open is closed by request in OFF too (DESIGN CHOICE, log 45). -/
def startPlan (index : Nat) (s : State) : State × Answer :=
  match s.sve.state with
  | .off | .held =>
      match index? 64 index with
      | none => (s, refuse .badField)
      | some i =>
          match s.entry i with
          | none => (s, refuse .badField)
          | some _ =>
              let s1 := openSet (closeSetByRequest s)
              (runPlan (becomeCurrent i s1), .reply .ok (u16 s1.sve.setCounter))
  | _ => (s, refuse .wrongState)

/-- OK with the engine state after the request. -/
def engineReply (s : State) : State × Answer := (s, .reply .ok (u8 s.sve.state.code))

def continuePlan (s : State) : State × Answer :=
  match s.sve.state, s.sve.heldReason, s.sve.current with
  | .held, some .endMark, some i => engineReply (runPlan (moveOn i s))
  | .held, some .chainBroken, some i => engineReply (runPlan (moveOn i s))
  | .held, some .aborted, some i => engineReply (runPlan (becomeCurrent i s))
  | _, _, _ => (s, refuse .wrongState)

/-- EXTEND PLAN (R100).  HELD with END_LAST the engine moves on wherever j differs from the old index, from a current
entry j too (DESIGN CHOICE, log 44). -/
def extendPlan (index : Nat) (s : State) : State × Answer :=
  match index? 64 index with
  | none => (s, refuse .badField)
  | some j =>
      let old := s.sve.lastIndex
      let s := s.updSve fun v => { v with lastIndex := j }
      match s.sve.state, s.sve.heldReason, s.sve.current with
      | .held, some .endLast, some i => if j = old then engineReply s else engineReply (runPlan (moveOn i s))
      | _, _, _ => engineReply s

def stopPlanRequest (s : State) : State × Answer :=
  match s.sve.state with
  | .off => (s, .reply .ok [])
  | _ => (stopPlan s, .reply .ok [])

/-! ### RELEASE SET and CLEAR PLAN (05 R112) -/

/-- The span from entry `i` along next links, up to and including `last`; it stops early after a free entry or at the
end of the fuel. -/
def spanFrom (s : State) (last : Fin 64) : Nat → Fin 64 → List (Fin 64)
  | 0, _ => []
  | n + 1, i =>
      match s.entry i with
      | none => [i]
      | some e => if i = last then [i] else i :: spanFrom s last n e.next

/-- An entry of the span that is complete and carries what the first entry carries; where that is no number, as after
an ABORTED second run, the entries without one are meant (DESIGN CHOICE, log 40). -/
def inSet (s : State) (no : Option Nat) (i : Fin 64) : Bool :=
  match s.entry i with
  | some e => e.complete && e.setNo == no
  | none => false

def freeEntries (l : List (Fin 64)) (s : State) : State := l.foldl (fun s i => s.setEntry i none) s

/-- RELEASE SET (R112); the count freed is sent as a list count, u8 (log 13). -/
def releaseSet (index : Nat) (s : State) : State × Answer :=
  match index? 64 index with
  | none => (s, refuse .badField)
  | some f =>
      match s.entry f with
      | none => (s, refuse .badField)
      | some e =>
          match e.complete, e.setLast with
          | true, some last =>
              let span := spanFrom s last 64 f
              let holdsCurrent := match s.sve.current with | some c => span.contains c | none => false
              if holdsCurrent && planBusy s.sve then (s, refuse .busy)
              else
                let freed := (span.filter (inSet s e.setNo)).dedup
                let freesCurrent := match s.sve.current with | some c => freed.contains c | none => false
                let s := freeEntries freed s
                let s :=
                  if freesCurrent && s.sve.state == .held then
                    s.updSve fun v => { v with state := .off, current := none, heldReason := none }
                  else s
                (s, .reply .ok (u8 freed.length))
          | _, _ => (s, refuse .badField)

def clearPlan (s : State) : State × Answer :=
  match s.sve.state with
  | .off => (s.updSve fun v => { v with plan := Table.fill 64 none }, .reply .ok [])
  | _ => (s, refuse .wrongState)

/-! ### SURVEY NOW (05 R113, 10 R191) -/

/-- The request kind of SURVEY NOW (11 R198). -/
def surveyNowKind : Byte := 0x41#8

/-- The deadline of a slot taken now. -/
def deadline (s : State) : Nat := (s.now + 100 * s.lki.timeout) % wrap32

def surveyNow (l : Link) (tag : Byte) (group scans : Nat) (s : State) : State × Answer :=
  match index? 32 group with
  | none => (s, refuse .badField)
  | some g =>
      let a := clampN 1 256 scans
      match freeSlot (s.link l) with
      | none => (s, refuse .busy)
      | some slot =>
          if 4 ≤ s.sve.demand.length then (s, refuse .full)
          else
            let idle := s.sve.demand.isEmpty
            let d := deadline s
            let s := s.updLink l fun k => { k with slots := k.slots.set slot (.waiting surveyNowKind tag a.2 d) }
            let r : DemandReq := { link := l, tag := tag, group := g, scans := a.1, slot := slot, replied := false }
            let s := s.updSve fun v => { v with demand := v.demand ++ [r] }
            (if idle then runDemand (startDemand s) else s, .deferred)

/-! ### READ PLAN ENTRY (05 R117) -/

/-- Trigger progress of the current entry: triggered, settle count, target, gauges still unsatisfied.  An IMMEDIATE entry
is never reported triggered, and every gauge of a RANGE counts as unsatisfied (DESIGN CHOICE, log 43).  R117 states no
presence: each of the last three items has its own presence byte and the whole has none, without a current entry too; the
settle count is absent unless a HOLD or a GATE triggered the entry; the gauges' count is one byte (all log 13). -/
def encProgress (v : Sve) : List Byte :=
  let triggered := match v.trigger with
    | .untriggered => false
    | .segment _ _ => true
    | .target _ _ t => t
  let settle := match v.trigger with | .segment _ n => some n | _ => none
  let target := match v.trigger with | .target t _ _ => some t | _ => none
  let open_ := v.collector.map fun c => c.gauges.countP (fun g => !g.satisfied c.scans)
  flag triggered ++ present? 4 settle ++ present? 8 target ++ present? 1 open_

/-- The engine status; the state of the oldest demand request is 0 collecting, 1 stalled (log 13). -/
def encEngine (s : State) : List Byte :=
  let v := s.sve
  u8 v.state.code ++ u8? (v.current.map (·.val)) ++ u8? (v.heldReason.map HeldReason.code) ++ u16 v.setCounter
    ++ flag v.openSet.isSome ++ u8? ((v.openSet.bind (·.first)).map (·.val)) ++ flag v.modeLast
    ++ u8 v.lastIndex.val ++ i32 v.zeroWindow ++ i32 v.minSpan ++ encProgress v ++ u8 v.demand.length
    ++ u8? (match v.work with | .idle => none | .collecting _ => some 0 | .stalled _ => some 1)

/-- READ PLAN ENTRY (R117).  The complete field of a free entry is a plain 0: R196 gives a boolean no absent code (log 13). -/
def readPlanEntry (index : Nat) (s : State) : State × Answer :=
  match index? 64 index with
  | none => (s, refuse .badField)
  | some i =>
      let entry :=
        match s.entry i with
        | none => padTo 15 (flag false) ++ flag false ++ u8? none ++ u16 0 ++ u8? none
        | some e =>
            flag true ++ encPlanEntry i e ++ flag e.complete ++ u8? (e.result.map EntryResult.code)
              ++ u16 (number? e.setNo) ++ u8? (e.setLast.map (·.val))
      (s, .reply .ok (entry ++ encEngine s))

/-! ### The store's requests (06 R127 to R131) -/

/-- The records of a READ STORE reply: at most `k`, whole, while the payload stays within 1,024 bytes. -/
def packRecords : Nat → Nat → List Record → List (List Byte)
  | 0, _, _ => []
  | _, _, [] => []
  | k + 1, used, r :: rs =>
      let b := encRecord r
      if used + b.length ≤ 1024 then b :: packRecords k (used + b.length) rs else []

/-- The prefix of the reply: status, fill, next number, count. -/
def readStorePrefix : Nat := 8

def readStore (count : Nat) (s : State) : State × Answer :=
  if 1 ≤ count ∧ count ≤ 255 then
    let l := packRecords count readStorePrefix s.cst.records
    (s, .reply .ok (u16 (fill s) ++ u32 s.cst.nextNo ++ u8 l.length ++ l.flatten))
  else (s, refuse .badField)

/-- A removal: the notice armed where R126 says so, and the stall list served, with the STORE claim. -/
def removeRecords (left : List Record) (s : State) : State :=
  serveStalls (afterRemoval left s)

/-- RELEASE STORE (R128).  The fill and the oldest number of the reply are those after the handling: what a completion
newly offered in the same event is among them (DESIGN CHOICE, log 51). -/
def releaseStore (n : Nat) (s : State) : State × Answer :=
  let left := removeUpTo n s.cst.records
  let removed := fill s - left.length
  let s := removeRecords left s
  (s, .reply .ok (u16 removed ++ u16 (fill s) ++ u32 (number? (oldestNo s))))

/-- CLEAR STORE (R129).  The fill of the reply counts what a completion newly offered in the same event too (DESIGN
CHOICE, log 51). -/
def clearStore (s : State) : State × Answer :=
  let removed := fill s
  let s := removeRecords [] s
  (s, .reply .ok (u16 removed ++ u16 (fill s)))

/-- The removal of RELEASE STORE `n` lets a stalled record in (06 R124). -/
def releaseAdmits (n : Nat) (s : State) : Bool := stallAdmits (afterRemoval (removeUpTo n s.cst.records) s)

/-- A stall-list entry of STORE STATUS: 3 bytes (11 R199). -/
def encStall (s : State) : Collector → List Byte
  | .plan => u8 0 ++ u8? (s.sve.current.map (·.val)) ++ u8 0
  | .demand =>
      match s.sve.demand with
      | r :: _ => u8 1 ++ u8 (linkCode r.link) ++ [r.tag]
      | [] => u8 1 ++ u8? none ++ u8 0

def storeStatus (s : State) : State × Answer :=
  (s, .reply .ok
    (u16 (fill s) ++ u16 (snapCount s) ++ u16 (otherCount s) ++ u16 (freeSnap s) ++ u16 (freeOther s)
      ++ u32 s.cst.nextNo ++ u32 (number? (oldestNo s)) ++ u32 (number? (newestNo s)) ++ u16 s.cst.high
      ++ u16 s.cst.low ++ flag s.cst.armed ++ flag s.lsq.claims.store ++ listOf (s.cst.stalls.map (encStall s))))

def setStoreMarks (high low : Nat) (s : State) : State × Answer :=
  let h := clampN 2 252 high
  let l := clampN 0 (h.1 - 1) low
  let s := s.updCst fun c => { c with high := h.1, low := l.1 }
  let s := evaluateStoreClaim (checkHighMark (checkLowMark s))
  (s, .reply (okOr (h.2 || l.2)) (u16 h.1 ++ u16 l.1))

end Sys2Proof.Machine
end

