-- ==== Sys2Proof/Machine/Period.lean ====
section
/-! DEFINITION. The servo period (09 R169, 02 R38, 03 R59): the clocks, what an advance of hall time tests, and the loading
path; and when a period brings about each of the events that come about inside it (log 3, 4). -/

namespace Sys2Proof.Machine

/-! ### The clocks (09 R169 to R172) -/

/-- The phase moves; hall time advances at the first period of a hundredth, modulo 2³². -/
def Tmb.advance (t : Tmb) : Tmb :=
  let q := nextPhase t.q
  { t with q := q, hall := if beginsHundredth q then (t.hall + 1) % wrap32 else t.hall }

/-- A period of the load-on clock while it is RUNNING. -/
def Tmb.countLoad (t : Tmb) : Tmb :=
  let p := nextPhase t.loadPhase
  { t with loadPhase := p, loadValue := if beginsHundredth p then (t.loadValue + 1) % wrap32 else t.loadValue }

/-- Both clocks, before the expiry is handed on; the run state is read before the sequencer works. -/
def clockStage (s : State) : State :=
  s.updTmb fun t => if clockRuns s then t.advance.countLoad else t.advance

/-- This expiry is an advance of hall time. -/
def hallAdvances (s : State) : Bool := beginsHundredth (nextPhase s.tmb.q)

/-- This expiry advances the load-on clock's value. -/
def loadClockAdvances (s : State) : Bool := clockRuns s && beginsHundredth (nextPhase s.tmb.loadPhase)

/-! ### An advance of hall time (04 R74, 07 R138, R143, 10 R192) -/

/-- The slot is WAITING and hall time stands at its deadline. -/
def slotDue (s : State) (l : Link) (i : Fin 2) : Bool :=
  match (s.link l).slots.get i with
  | .waiting _ _ _ d => d == s.now
  | _ => false

/-- The demand request tied to the slot learns that its reply has been given. -/
def DemandReq.timeOut (l : Link) (i : Fin 2) (r : DemandReq) : DemandReq :=
  if r.link = l ∧ r.slot = i then { r with replied := true } else r

/-- The reply TIMED_OUT is formed; the survey goes on. -/
def timeOutSlot (l : Link) (i : Fin 2) (s : State) : State :=
  if slotDue s l i then
    (s.updSve fun v => { v with demand := v.demand.map (DemandReq.timeOut l i) }).updLink l
      (decideSlot i (fun _ => .timedOut) [])
  else s

/-- The silences of an advance: modules, crack front-end, channels. -/
def silenceStage (s : State) : State :=
  let s := (allFin 16).foldl (fun s m => if moduleDue s m then silenceModule m s else s) s
  let s := if frontendDue s then silenceFrontend s else s
  (allFin 8).foldl (fun s c => if channelDue s c then silenceChannel c s else s) s

/-- The deadlines of both links; of a link's two slots the lower is tested first (DESIGN CHOICE, log 48). -/
def deadlineStage (s : State) : State :=
  timeOutSlot .panel 1 (timeOutSlot .panel 0 (timeOutSlot .director 1 (timeOutSlot .director 0 s)))

/-- The tests of an advance of hall time (log 4). -/
def advanceStage (s : State) : State := deadlineStage (silenceStage s)

/-! ### The period -/

/-- The clocks and, at an advance of hall time, its tests. -/
def timeStage (s : State) : State :=
  if hallAdvances s then advanceStage (clockStage s) else clockStage s

/-- Up to the sequencer's work: time, then the settle count of a triggered entry. -/
def settledStage (s : State) : State := settleStage (timeStage s)

/-- ASA's stages and the unload's completion, after the sequencer's work. -/
def arrayStage (s : State) : State :=
  let s := workArray s
  if unloadDone s then completeUnload s else s

/-- The loading path: LSQ, ASA stages 1 to 5, CAU, and ASA's reports last (02 R38, 03 R59). -/
def loadingPath (s : State) : State :=
  let x := sequencerPeriod s
  let s2 := arrayStage x.1
  let s3 := cyclePeriod x.2 s2
  takeReports (arrayReports x.1.asa s2.asa) s3

/-- SERVO_PERIOD_EXPIRY. -/
def servoPeriod (s : State) : State := loadingPath (settledStage s)

/-! ### What this period brings about (log 3) -/

def bringsModuleSilence (m : Fin 16) (s : State) : Bool := hallAdvances s && moduleDue (clockStage s) m
def bringsFrontendSilence (s : State) : Bool := hallAdvances s && frontendDue (clockStage s)
def bringsChannelSilence (c : Fin 8) (s : State) : Bool := hallAdvances s && channelDue (clockStage s) c
def bringsReplyTimeout (l : Link) (i : Fin 2) (s : State) : Bool :=
  hallAdvances s && slotDue (silenceStage (clockStage s)) l i
def bringsSensorStart (i : Fin 8) (s : State) : Bool :=
  let a := s.act i
  !a.sensor && a.settleMissing.sensor
def bringsSettleExpiry (s : State) : Bool := settleDue (timeStage s)
def bringsHoldExpiry (s : State) : Bool := holdExpires (settledStage s)
def bringsCycleCompletion (s : State) : Bool := (sequencerPeriod (settledStage s)).2.ended.isSome
def bringsTwistStart (f : Fin 4) (s : State) : Bool :=
  let x := (sequencerPeriod (settledStage s)).1
  !(x.frame f).twist && ((checkedArray x).frame f).twist
def bringsUnloadCompletion (s : State) : Bool :=
  unloadDone (workArray (sequencerPeriod (settledStage s)).1)

end Sys2Proof.Machine
end

