-- ==== Sys2Proof/Machine/Requests.lean ====
section
/-! DEFINITION. Taking a request (10 R180 to R183): the request kinds, the order of checks, the requests of the Link
Interface and the Time Base, and the placing of the reply. -/

namespace Sys2Proof.Machine

/-! ### Kinds (11 R198) -/

/-- The kind byte of a request. -/
def kindByte : Request → Byte
  | .status => 0x01#8 | .subscribe .. => 0x02#8 | .setReplyTimeout .. => 0x03#8 | .partReset => 0x04#8
  | .readTime => 0x05#8 | .resetLoadClock => 0x06#8
  | .appendSegment .. => 0x10#8 | .writeSegment .. => 0x11#8 | .clearProgram => 0x12#8 | .readSegment .. => 0x13#8
  | .run => 0x14#8 | .restart .. => 0x15#8 | .hold => 0x16#8 | .resume => 0x17#8 | .openGate .. => 0x18#8
  | .sequencerStatus => 0x19#8
  | .setActuator .. => 0x20#8 | .setFrame .. => 0x21#8 | .setAlignment .. => 0x22#8 | .readActuator .. => 0x23#8
  | .setCycleAccounting .. => 0x28#8 | .readCycles => 0x29#8 | .resetCycleCounters => 0x2A#8
  | .setStiffnessReference .. => 0x2B#8 | .clearStiffnessReference .. => 0x2C#8
  | .mapGauge .. => 0x30#8 | .unmapGauge .. => 0x31#8 | .setGroup .. => 0x32#8 | .setZero .. => 0x33#8
  | .clearReference .. => 0x34#8 | .clearReferenceAll => 0x34#8
  | .readGaugesByRange .. => 0x35#8 | .readGaugesByGroup .. => 0x35#8
  | .writePlanEntry .. => 0x38#8 | .setPlanMode .. => 0x39#8 | .setSurveySettings .. => 0x3A#8
  | .startPlan .. => 0x3B#8 | .continuePlan => 0x3C#8 | .extendPlan .. => 0x3D#8 | .stopPlan => 0x3E#8
  | .releaseSet .. => 0x3F#8 | .clearPlan => 0x40#8 | .surveyNow .. => 0x41#8 | .readPlanEntry .. => 0x42#8
  | .readStore .. => 0x48#8 | .releaseStore .. => 0x49#8 | .clearStore => 0x4A#8 | .storeStatus => 0x4B#8
  | .setStoreMarks .. => 0x4C#8
  | .setLoop .. => 0x50#8 | .setAeChannel .. => 0x51#8 | .readCrackStatusSummary => 0x52#8
  | .readCrackStatusRing .. => 0x52#8 | .clearCaution => 0x53#8
  | .setCause .. => 0x58#8 | .arm => 0x59#8 | .resumeAlarm => 0x5A#8 | .readAlarms => 0x5B#8 | .takeAlarms => 0x5C#8

/-- The kinds marked P: those the Panel link may send (10 R183). -/
def panelKinds : List Byte :=
  [0x01#8, 0x02#8, 0x05#8, 0x13#8, 0x16#8, 0x17#8, 0x18#8, 0x19#8, 0x23#8, 0x29#8, 0x35#8, 0x41#8, 0x42#8, 0x48#8,
   0x4B#8, 0x52#8, 0x5B#8]

/-- The kinds that only the Director link may send. -/
def directorKinds : List Byte :=
  [0x03#8, 0x04#8, 0x06#8, 0x10#8, 0x11#8, 0x12#8, 0x14#8, 0x15#8, 0x20#8, 0x21#8, 0x22#8, 0x28#8, 0x2A#8, 0x2B#8,
   0x2C#8, 0x30#8, 0x31#8, 0x32#8, 0x33#8, 0x34#8, 0x38#8, 0x39#8, 0x3A#8, 0x3B#8, 0x3C#8, 0x3D#8, 0x3E#8, 0x3F#8,
   0x40#8, 0x49#8, 0x4A#8, 0x4C#8, 0x50#8, 0x51#8, 0x53#8, 0x58#8, 0x59#8, 0x5A#8, 0x5C#8]

def isRequestKind (kind : Byte) : Bool := panelKinds.contains kind || directorKinds.contains kind

/-- The link may send the kind. -/
def linkMay (l : Link) (kind : Byte) : Bool :=
  match l with
  | .director => true
  | .panel => panelKinds.contains kind

/-! ### LKI's and TMB's own requests (10 R186, R193 to R195, 09 R173, R175) -/

/-- The slots of a link that are WAITING or READY. -/
def slotsTaken (k : LinkSt) : Nat := k.slots.cells.countP (fun x => !(x == .free))

def discardCounts (k : LinkSt) : List Byte := u16 k.gap ++ u16 k.check ++ u16 k.length ++ u16 k.queue

/-- The layouts of this manual (10 R194). -/
def formatVersion : Nat := 1

def statusReply (l : Link) (s : State) : List Byte :=
  let k := s.link l
  u8 formatVersion ++ u32 s.tmb.hall ++ u8 s.lsq.state.code ++ u8? s.lsq.state.resumeCode?
    ++ u8 s.pru.state.code ++ u8 (demandedLevel s).code ++ flag s.pins.estop
    ++ u8 s.sve.state.code ++ u8 s.sve.demand.length ++ u16 (fill s) ++ flag s.lsq.claims.store
    ++ flag s.ckm.caution ++ u8 (rateCode s.lki.rate)
    ++ u8 k.subs.toNat ++ flag k.lost ++ u8 (slotsTaken k) ++ u8 k.replies.length ++ u8 k.notices.length
    ++ discardCounts s.lki.director ++ discardCounts s.lki.panel

def subscribe (l : Link) (classes : Nat) (s : State) : State × Answer :=
  let set := BitVec.ofNat 7 classes
  (s.updLink l fun k => { k with subs := set }, .reply .ok (u8 set.toNat))

def setReplyTimeout (seconds : Nat) (s : State) : State × Answer :=
  let t := clampN 1 3600 seconds
  (s.updLki fun k => { k with timeout := t.1 }, .reply (okOr t.2) (u16 t.1))

def partReset (s : State) : State × Answer := (s.updLki fun k => { k with resetPending := true }, .reply .ok [])

def readTime (s : State) : List Byte :=
  u32 s.tmb.hall ++ u16 s.tmb.q ++ u32 s.tmb.loadValue ++ u16 s.tmb.loadPhase ++ flag (clockRuns s)

def resetLoadClock (s : State) : State × Answer :=
  (s.updTmb fun t => { t with loadValue := 0, loadPhase := 0 },
    .reply .ok (u32 s.tmb.loadValue ++ u16 s.tmb.loadPhase ++ flag (clockRuns s)))

/-! ### Handing a request to its owner -/

/-- What the owner of a request does and answers. -/
def handle (l : Link) (tag : Byte) (r : Request) (s : State) : State × Answer :=
  match r with
  | .status => (s, .reply .ok (statusReply l s))
  | .subscribe classes => subscribe l classes s
  | .setReplyTimeout seconds => setReplyTimeout seconds s
  | .partReset => partReset s
  | .readTime => (s, .reply .ok (readTime s))
  | .resetLoadClock => resetLoadClock s
  | .appendSegment seg => appendSegment seg s
  | .writeSegment index seg => writeSegment index seg s
  | .clearProgram => clearProgram s
  | .readSegment index => readSegment index s
  | .run => run s
  | .restart index => restart index s
  | .hold => hold l s
  | .resume => resume l s
  | .openGate id => openGate l id s
  | .sequencerStatus => sequencerStatus l s
  | .setActuator a => setActuator a s
  | .setFrame index limit confirm => setFrame index limit confirm s
  | .setAlignment rate => setAlignment rate s
  | .readActuator index => readActuator index s
  | .setCycleAccounting a => setCycleAccounting a s
  | .readCycles => (s, .reply .ok (readCycles s))
  | .resetCycleCounters => resetCycleCounters s
  | .setStiffnessReference index value => setStiffnessReference index value s
  | .clearStiffnessReference index => clearStiffnessReference index s
  | .mapGauge a => mapGauge a s
  | .unmapGauge gauge => unmapGauge gauge s
  | .setGroup group gauges => setGroup group gauges s
  | .setZero gauge zero => setZero gauge zero s
  | .clearReference gauge => clearReference gauge s
  | .clearReferenceAll => clearReferenceAll s
  | .readGaugesByRange first count => readGaugesByRange first count s
  | .readGaugesByGroup group start count => readGaugesByGroup group start count s
  | .writePlanEntry a => writePlanEntry a s
  | .setPlanMode mode last => setPlanMode mode last s
  | .setSurveySettings zeroWindow minSpan => setSurveySettings zeroWindow minSpan s
  | .startPlan index => startPlan index s
  | .continuePlan => continuePlan s
  | .extendPlan index => extendPlan index s
  | .stopPlan => stopPlanRequest s
  | .releaseSet index => releaseSet index s
  | .clearPlan => clearPlan s
  | .surveyNow group scans => surveyNow l tag group scans s
  | .readPlanEntry index => readPlanEntry index s
  | .readStore count => readStore count s
  | .releaseStore number => releaseStore number s
  | .clearStore => clearStore s
  | .storeStatus => storeStatus s
  | .setStoreMarks high low => setStoreMarks high low s
  | .setLoop loop use debounce level => setLoop loop use debounce level s
  | .setAeChannel chan use window warn alarm => setAeChannel chan use window warn alarm s
  | .readCrackStatusSummary => readCrackStatusSummary l s
  | .readCrackStatusRing chan => readCrackStatusRing l chan s
  | .clearCaution => clearCaution s
  | .setCause kind level mask => setCause kind level mask s
  | .arm => arm s
  | .resumeAlarm => resumeAlarm s
  | .readAlarms => (s, .reply .ok (readAlarms s))
  | .takeAlarms => takeAlarms s

/-! ### The order of checks (10 R180) -/

/-- The reply queue has a place, and no part reset waits (10 R180, R195). -/
def mayTake (l : Link) (s : State) : Bool :=
  !s.lki.resetPending && decide ((s.link l).replies.length < replyPlaces)

/-- A complete request frame that cannot be taken: without counting while a part reset waits, else counted QUEUE. -/
def discardRequest (l : Link) (s : State) : State :=
  if s.lki.resetPending then s else s.updLink l fun k => { k with queue := countUp k.queue }

/-- A reply placed at the back of the link's queue, formed after the handling. -/
def answer (l : Link) (kind tag : Byte) (r : State × Answer) : State :=
  match r.2 with
  | .reply st content => r.1.updLink l (placeOwn (replyFrame kind tag st content))
  | .deferred => r.1

/-- A request refused before it reaches its owner: the status alone, for ARM, RESUME ALARM and CLEAR CAUTION too (DESIGN
CHOICE, log 47). -/
def refuseRequest (l : Link) (kind tag : Byte) (st : Status) (s : State) : State :=
  s.updLink l (placeOwn (replyFrame kind tag st []))

/-- The reply to a kind that is no request kind: kind 0xFF (10 R181). -/
def refuseKind (l : Link) (tag : Byte) (s : State) : State :=
  s.updLink l (placeOwn { kind := 0xFF#8, tag := tag, payload := [Status.badKind.code] })

/-- A request whose kind and length are right is taken. -/
def takeRequest (l : Link) (tag : Byte) (r : Request) (s : State) : State :=
  if mayTake l s then
    if linkMay l (kindByte r) then answer l (kindByte r) tag (handle l tag r s)
    else refuseRequest l (kindByte r) tag .denied s
  else discardRequest l s

end Sys2Proof.Machine
end

