-- ==== Sys2Proof/Machine/Receive.lean ====
section
/-! DEFINITION. Receiving (10 R177 to R180): the payloads of requests read from and written to bytes (11 R198, R199), the
receive assembler, and a complete frame. -/

namespace Sys2Proof.Machine

/-! ### Fields of a payload (11 R196) -/

/-- The unsigned number that bytes spell, least significant first. -/
def leNat : List Byte → Nat
  | [] => 0
  | b :: bs => b.toNat + 256 * leNat bs

/-- The unsigned field of `n` bytes at an offset. -/
def natAt (p : List Byte) (off n : Nat) : Nat := leNat ((p.drop off).take n)

/-- The two's complement field of `n` bytes at an offset. -/
def intAt (p : List Byte) (off n : Nat) : Int := (BitVec.ofNat (8 * n) (natAt p off n)).toInt

/-- The 16 bytes of a segment at an offset. -/
def segmentAt (p : List Byte) (off : Nat) : SegArg :=
  let b := natAt p (off + 1)
  match natAt p off 1 with
  | 0 => .ramp (intAt p (off + 1) 4) (natAt p (off + 5) 4)
  | 1 => .hold (b 4) (natAt p (off + 5) 1)
  | 2 => .cycle (intAt p (off + 1) 4) (intAt p (off + 5) 4) (natAt p (off + 9) 2) (natAt p (off + 11) 4)
      (natAt p (off + 15) 1)
  | 3 => .gate (b 1) (natAt p (off + 2) 1)
  | 4 => .jump (b 1) (natAt p (off + 3) 2)
  | k => .unknown k

/-- The 42 bytes of the actuator settings. -/
def actuatorAt (p : List Byte) : ActuatorArg :=
  { index := natAt p 0 1, use := natAt p 1 1, frame := natAt p 2 1, polarity := natAt p 3 1, share := natAt p 4 2,
    fmin := intAt p 6 4, fmax := intAt p 10 4, trip := intAt p 14 4, dmin := intAt p 18 4, dmax := intAt p 22 4,
    kp := natAt p 26 2, ki := natAt p 28 2, rest := intAt p 30 4, unloadRate := natAt p 34 4,
    peakTol := natAt p 38 4 }

def cycleArgAt (p : List Byte) : CycleArg :=
  { tracking := natAt p 0 1, stroke := natAt p 1 4, capture := natAt p 5 1, drop := natAt p 6 2,
    dropRun := natAt p 8 1, decimation := natAt p 9 4, exceptions := natAt p 13 1 }

/-- The 12 bytes of the gauge mapping. -/
def gaugeArgAt (p : List Byte) : GaugeArg :=
  { gauge := natAt p 0 1, module := natAt p 1 1, input := natAt p 2 1, bridge := natAt p 3 1, gfm := natAt p 4 2,
    watch := natAt p 6 1, band := natAt p 7 4, confirm := natAt p 11 1 }

/-- The 14 bytes of a plan entry. -/
def planArgAt (p : List Byte) : PlanArg :=
  { index := natAt p 0 1, kind := natAt p 1 1, group := natAt p 2 1, trigger := natAt p 3 1, scans := natAt p 4 2,
    settle := natAt p 6 2, interval := natAt p 8 4, next := natAt p 12 1, marks := natAt p 13 1 }

/-- The payload length each kind allows (11 R198); SET GROUP's follows its count. -/
def payloadLength (kind : Nat) (p : List Byte) : Nat :=
  match kind with
  | 0x02 => 1 | 0x03 => 2
  | 0x10 => 16 | 0x11 => 17 | 0x13 => 1 | 0x15 => 1 | 0x18 => 1
  | 0x20 => 42 | 0x21 => 7 | 0x22 => 4 | 0x23 => 1
  | 0x28 => 14 | 0x2B => 5 | 0x2C => 1
  | 0x30 => 12 | 0x31 => 1 | 0x32 => 2 + natAt p 1 1 | 0x33 => 5 | 0x34 => 2 | 0x35 => 4
  | 0x38 => 14 | 0x39 => 2 | 0x3A => 8 | 0x3B => 1 | 0x3D => 1 | 0x3F => 1
  | 0x41 => 3 | 0x42 => 1 | 0x48 => 1 | 0x49 => 4 | 0x4C => 4
  | 0x50 => 4 | 0x51 => 11 | 0x52 => 2 | 0x58 => 3
  | _ => 0

/-- The request of a kind and a payload of the right length; `none` where a selector, form or mode byte lies outside
its codes, and for a kind that is no request kind.  The start position of READ GAUGES in its range form
is not looked at (DESIGN CHOICE, log 31). -/
def readRequest (kind : Nat) (p : List Byte) : Option Request :=
  let a := natAt p 0 1
  let b := natAt p 1 1
  match kind with
  | 0x01 => some .status
  | 0x02 => some (.subscribe a)
  | 0x03 => some (.setReplyTimeout (natAt p 0 2))
  | 0x04 => some .partReset
  | 0x05 => some .readTime
  | 0x06 => some .resetLoadClock
  | 0x10 => some (.appendSegment (segmentAt p 0))
  | 0x11 => some (.writeSegment a (segmentAt p 1))
  | 0x12 => some .clearProgram
  | 0x13 => some (.readSegment a)
  | 0x14 => some .run
  | 0x15 => some (.restart a)
  | 0x16 => some .hold
  | 0x17 => some .resume
  | 0x18 => some (.openGate a)
  | 0x19 => some .sequencerStatus
  | 0x20 => some (.setActuator (actuatorAt p))
  | 0x21 => some (.setFrame a (natAt p 1 4) (natAt p 5 2))
  | 0x22 => some (.setAlignment (natAt p 0 4))
  | 0x23 => some (.readActuator a)
  | 0x28 => some (.setCycleAccounting (cycleArgAt p))
  | 0x29 => some .readCycles
  | 0x2A => some .resetCycleCounters
  | 0x2B => some (.setStiffnessReference a (natAt p 1 4))
  | 0x2C => some (.clearStiffnessReference a)
  | 0x30 => some (.mapGauge (gaugeArgAt p))
  | 0x31 => some (.unmapGauge a)
  | 0x32 => some (.setGroup a ((p.drop 2).map BitVec.toNat))
  | 0x33 => some (.setZero a (intAt p 1 4))
  | 0x34 => if a = 0 then some (.clearReference b) else if a = 1 then some .clearReferenceAll else none
  | 0x35 =>
      if a = 0 then some (.readGaugesByRange b (natAt p 3 1))
      else if a = 1 then some (.readGaugesByGroup b (natAt p 2 1) (natAt p 3 1))
      else none
  | 0x38 => some (.writePlanEntry (planArgAt p))
  | 0x39 => some (.setPlanMode a b)
  | 0x3A => some (.setSurveySettings (intAt p 0 4) (intAt p 4 4))
  | 0x3B => some (.startPlan a)
  | 0x3C => some .continuePlan
  | 0x3D => some (.extendPlan a)
  | 0x3E => some .stopPlan
  | 0x3F => some (.releaseSet a)
  | 0x40 => some .clearPlan
  | 0x41 => some (.surveyNow a (natAt p 1 2))
  | 0x42 => some (.readPlanEntry a)
  | 0x48 => some (.readStore a)
  | 0x49 => some (.releaseStore (natAt p 0 4))
  | 0x4A => some .clearStore
  | 0x4B => some .storeStatus
  | 0x4C => some (.setStoreMarks (natAt p 0 2) (natAt p 2 2))
  | 0x50 => some (.setLoop a b (natAt p 2 1) (natAt p 3 1))
  | 0x51 => some (.setAeChannel a b (natAt p 2 1) (natAt p 3 4) (natAt p 7 4))
  | 0x52 => if a = 0 then some .readCrackStatusSummary else if a = 1 then some (.readCrackStatusRing b) else none
  | 0x53 => some .clearCaution
  | 0x58 => some (.setCause a b (natAt p 2 1))
  | 0x59 => some .arm
  | 0x5A => some .resumeAlarm
  | 0x5B => some .readAlarms
  | 0x5C => some .takeAlarms
  | _ => none

/-! ### Payloads written (11 R198, R199) -/

def writeSeg : SegArg → List Byte
  | .ramp t r => padTo 16 (u8 0 ++ i32 t ++ u32 r)
  | .hold d m => padTo 16 (u8 1 ++ u32 d ++ u8 m)
  | .cycle v k h n o => u8 2 ++ i32 v ++ i32 k ++ u16 h ++ u32 n ++ u8 o
  | .gate i c => padTo 16 (u8 3 ++ u8 i ++ u8 c)
  | .jump t n => padTo 16 (u8 4 ++ u8 t ++ u8 0 ++ u16 n)
  | .unknown k => padTo 16 (u8 k)

def writeActuator (a : ActuatorArg) : List Byte :=
  u8 a.index ++ u8 a.use ++ u8 a.frame ++ u8 a.polarity ++ u16 a.share ++ i32 a.fmin ++ i32 a.fmax ++ i32 a.trip
    ++ i32 a.dmin ++ i32 a.dmax ++ u16 a.kp ++ u16 a.ki ++ i32 a.rest ++ u32 a.unloadRate ++ u32 a.peakTol

/-- The payload of a request: what a host sends for it. -/
def writePayload : Request → List Byte
  | .subscribe c => u8 c
  | .setReplyTimeout t => u16 t
  | .appendSegment g => writeSeg g
  | .writeSegment i g => u8 i ++ writeSeg g
  | .readSegment i | .restart i | .openGate i | .readActuator i | .clearStiffnessReference i | .unmapGauge i
  | .startPlan i | .extendPlan i | .releaseSet i | .readPlanEntry i | .readStore i => u8 i
  | .setActuator a => writeActuator a
  | .setFrame i l c => u8 i ++ u32 l ++ u16 c
  | .setAlignment r => u32 r
  | .setCycleAccounting a =>
      u8 a.tracking ++ u32 a.stroke ++ u8 a.capture ++ u16 a.drop ++ u8 a.dropRun ++ u32 a.decimation
        ++ u8 a.exceptions
  | .setStiffnessReference i v => u8 i ++ u32 v
  | .mapGauge a =>
      u8 a.gauge ++ u8 a.module ++ u8 a.input ++ u8 a.bridge ++ u16 a.gfm ++ u8 a.watch ++ u32 a.band
        ++ u8 a.confirm
  | .setGroup g l => u8 g ++ u8 l.length ++ l.map (BitVec.ofNat 8)
  | .setZero g z => u8 g ++ i32 z
  | .clearReference g => u8 0 ++ u8 g
  | .clearReferenceAll => u8 1 ++ u8 0
  | .readGaugesByRange f n => u8 0 ++ u8 f ++ u8 0 ++ u8 n
  | .readGaugesByGroup g p n => u8 1 ++ u8 g ++ u8 p ++ u8 n
  | .writePlanEntry a =>
      u8 a.index ++ u8 a.kind ++ u8 a.group ++ u8 a.trigger ++ u16 a.scans ++ u16 a.settle ++ u32 a.interval
        ++ u8 a.next ++ u8 a.marks
  | .setPlanMode m j => u8 m ++ u8 j
  | .setSurveySettings z m => i32 z ++ i32 m
  | .surveyNow g a => u8 g ++ u16 a
  | .releaseStore n => u32 n
  | .setStoreMarks h l => u16 h ++ u16 l
  | .setLoop i u b l => u8 i ++ u8 u ++ u8 b ++ u8 l
  | .setAeChannel i u w t a => u8 i ++ u8 u ++ u8 w ++ u32 t ++ u32 a
  | .readCrackStatusSummary => u8 0 ++ u8 0
  | .readCrackStatusRing c => u8 1 ++ u8 c
  | .setCause k l m => u8 k ++ u8 l ++ u8 m
  | .status | .partReset | .readTime | .resetLoadClock | .clearProgram | .run | .hold | .resume | .sequencerStatus
  | .readCycles | .resetCycleCounters | .continuePlan | .stopPlan | .clearPlan | .clearStore | .storeStatus
  | .clearCaution | .arm | .resumeAlarm | .readAlarms | .takeAlarms => []

/-! ### A complete frame (10 R180) -/

/-- The checks of R180 in their order, on a frame whose CRC is right. -/
def takeFrame (l : Link) (kind tag : Byte) (payload : List Byte) (s : State) : State :=
  if mayTake l s then
    if !isRequestKind kind then refuseKind l tag s
    else if !linkMay l kind then refuseRequest l kind tag .denied s
    else if payload.length ≠ payloadLength kind.toNat payload then refuseRequest l kind tag .badLength s
    else
      match readRequest kind.toNat payload with
      | some r => answer l kind tag (handle l tag r s)
      | none => refuseRequest l kind tag .badField s
  else discardRequest l s

/-! ### The receive assembler (10 R177, R178) -/

def setRx (l : Link) (rx : Assembler) (s : State) : State := s.updLink l fun k => { k with rx := rx }

/-- The length that two header bytes give. -/
def headerLength (got : List Byte) : Nat := natAt got 0 2

/-- The longest payload. -/
def maxPayload : Nat := 1024

/-- A header byte. -/
def takeHeader (l : Link) (got : List Byte) (s : State) : State :=
  match got with
  | [_, _] =>
      if maxPayload < headerLength got then
        s.updLink l fun k => { k with rx := .hunting, length := countUp k.length }
      else setRx l (.header got) s
  | [_, _, kind, tag] =>
      if headerLength got = 0 then setRx l (.check kind tag [] []) s
      else setRx l (.payload (headerLength got) kind tag []) s
  | _ => setRx l (.header got) s

/-- The CRC bytes compared with the CRC of the stored bytes. -/
def crcFits (kind tag : Byte) (payload got : List Byte) : Bool :=
  got == crcBytes (frameBody { kind := kind, tag := tag, payload := payload })

/-- A CRC byte. -/
def takeCheck (l : Link) (kind tag : Byte) (payload got : List Byte) (s : State) : State :=
  match got with
  | [_, _] =>
      if crcFits kind tag payload got then takeFrame l kind tag payload (setRx l .hunting s)
      else s.updLink l fun k => { k with rx := .hunting, check := countUp k.check }
  | _ => setRx l (.check kind tag payload got) s

/-- One character on a link. -/
def receive (l : Link) (c : Byte) (s : State) : State :=
  match (s.link l).rx with
  | .hunting => if c = 0xB5#8 then setRx l .sync s else s
  | .sync => if c = 0x4C#8 then setRx l (.header []) s else if c = 0xB5#8 then s else setRx l .hunting s
  | .header got => takeHeader l (got ++ [c]) s
  | .payload len kind tag got =>
      let got := got ++ [c]
      if len ≤ got.length then setRx l (.check kind tag got []) s else setRx l (.payload len kind tag got) s
  | .check kind tag payload got => takeCheck l kind tag payload (got ++ [c]) s

/-- The gap timer runs out, or a bad character or line break comes: outside HUNTING the frame is abandoned and counted
GAP (R178, R179; log 35). -/
def abandonFrame (l : Link) (s : State) : State :=
  match (s.link l).rx with
  | .hunting => s
  | _ => s.updLink l fun k => { k with rx := .hunting, gap := countUp k.gap }

/-- The character shows a length above 1,024. -/
def showsOversize (l : Link) (c : Byte) (s : State) : Bool :=
  match (s.link l).rx with
  | .header [a] => decide (maxPayload < headerLength [a, c])
  | _ => false

/-- The character completes a frame whose CRC differs. -/
def showsBadCrc (l : Link) (c : Byte) (s : State) : Bool :=
  match (s.link l).rx with
  | .check kind tag payload [a] => !crcFits kind tag payload [a, c]
  | _ => false

end Sys2Proof.Machine
end

