-- ==== Sys2Proof/Machine/Commands.lean ====
section
/-! DEFINITION. The meanings of the requests: each is taken as 10 R180 says and handled by its owner. -/

namespace Sys2Proof.Machine

/-- STATUS (R194). -/
def execStatus (l : Link) (tag : Byte) (s : State) : Host.Outcome State Fault Refusal :=
  finish (takeRequest l tag .status s)

/-- SUBSCRIBE (R186). -/
def execSubscribe (l : Link) (tag : Byte) (classes : Nat) (s : State) : Host.Outcome State Fault Refusal :=
  finish (takeRequest l tag (.subscribe classes) s)

/-- SET REPLY TIMEOUT (R193). -/
def execSetReplyTimeout (l : Link) (tag : Byte) (seconds : Nat) (s : State) : Host.Outcome State Fault Refusal :=
  finish (takeRequest l tag (.setReplyTimeout seconds) s)

/-- PART RESET (R195). -/
def execPartReset (l : Link) (tag : Byte) (s : State) : Host.Outcome State Fault Refusal :=
  finish (takeRequest l tag .partReset s)

/-- READ TIME (R175). -/
def execReadTime (l : Link) (tag : Byte) (s : State) : Host.Outcome State Fault Refusal :=
  finish (takeRequest l tag .readTime s)

/-- RESET LOAD CLOCK (R173). -/
def execResetLoadClock (l : Link) (tag : Byte) (s : State) : Host.Outcome State Fault Refusal :=
  finish (takeRequest l tag .resetLoadClock s)

/-- APPEND SEGMENT (R4). -/
def execAppendSegment (l : Link) (tag : Byte) (seg : SegArg) (s : State) : Host.Outcome State Fault Refusal :=
  finish (takeRequest l tag (.appendSegment seg) s)

/-- WRITE SEGMENT (R5). -/
def execWriteSegment (l : Link) (tag : Byte) (index : Nat) (seg : SegArg) (s : State) : Host.Outcome State Fault Refusal :=
  finish (takeRequest l tag (.writeSegment index seg) s)

/-- CLEAR PROGRAM (R6). -/
def execClearProgram (l : Link) (tag : Byte) (s : State) : Host.Outcome State Fault Refusal :=
  finish (takeRequest l tag .clearProgram s)

/-- READ SEGMENT (R7). -/
def execReadSegment (l : Link) (tag : Byte) (index : Nat) (s : State) : Host.Outcome State Fault Refusal :=
  finish (takeRequest l tag (.readSegment index) s)

/-- RUN (R10). -/
def execRun (l : Link) (tag : Byte) (s : State) : Host.Outcome State Fault Refusal :=
  finish (takeRequest l tag .run s)

/-- RESTART (R11). -/
def execRestart (l : Link) (tag : Byte) (index : Nat) (s : State) : Host.Outcome State Fault Refusal :=
  finish (takeRequest l tag (.restart index) s)

/-- HOLD (R24). -/
def execHold (l : Link) (tag : Byte) (s : State) : Host.Outcome State Fault Refusal :=
  finish (takeRequest l tag .hold s)

/-- RESUME (R24). -/
def execResume (l : Link) (tag : Byte) (s : State) : Host.Outcome State Fault Refusal :=
  finish (takeRequest l tag .resume s)

/-- OPEN GATE (R22). -/
def execOpenGate (l : Link) (tag : Byte) (id : Nat) (s : State) : Host.Outcome State Fault Refusal :=
  finish (takeRequest l tag (.openGate id) s)

/-- SEQUENCER STATUS (R28). -/
def execSequencerStatus (l : Link) (tag : Byte) (s : State) : Host.Outcome State Fault Refusal :=
  finish (takeRequest l tag .sequencerStatus s)

/-- SET ACTUATOR (R32). -/
def execSetActuator (l : Link) (tag : Byte) (a : ActuatorArg) (s : State) : Host.Outcome State Fault Refusal :=
  finish (takeRequest l tag (.setActuator a) s)

/-- SET FRAME (R34). -/
def execSetFrame (l : Link) (tag : Byte) (index : Nat) (limit : Nat) (confirm : Nat) (s : State) : Host.Outcome State Fault Refusal :=
  finish (takeRequest l tag (.setFrame index limit confirm) s)

/-- SET ALIGNMENT (R34). -/
def execSetAlignment (l : Link) (tag : Byte) (rate : Nat) (s : State) : Host.Outcome State Fault Refusal :=
  finish (takeRequest l tag (.setAlignment rate) s)

/-- READ ACTUATOR (R35). -/
def execReadActuator (l : Link) (tag : Byte) (index : Nat) (s : State) : Host.Outcome State Fault Refusal :=
  finish (takeRequest l tag (.readActuator index) s)

/-- SET CYCLE ACCOUNTING (R69). -/
def execSetCycleAccounting (l : Link) (tag : Byte) (a : CycleArg) (s : State) : Host.Outcome State Fault Refusal :=
  finish (takeRequest l tag (.setCycleAccounting a) s)

/-- READ CYCLES (R70). -/
def execReadCycles (l : Link) (tag : Byte) (s : State) : Host.Outcome State Fault Refusal :=
  finish (takeRequest l tag .readCycles s)

/-- RESET CYCLE COUNTERS (R71). -/
def execResetCycleCounters (l : Link) (tag : Byte) (s : State) : Host.Outcome State Fault Refusal :=
  finish (takeRequest l tag .resetCycleCounters s)

/-- SET STIFFNESS REFERENCE (R65). -/
def execSetStiffnessReference (l : Link) (tag : Byte) (index : Nat) (value : Nat) (s : State) : Host.Outcome State Fault Refusal :=
  finish (takeRequest l tag (.setStiffnessReference index value) s)

/-- CLEAR STIFFNESS REFERENCE (R65). -/
def execClearStiffnessReference (l : Link) (tag : Byte) (index : Nat) (s : State) : Host.Outcome State Fault Refusal :=
  finish (takeRequest l tag (.clearStiffnessReference index) s)

/-- MAP GAUGE (R77). -/
def execMapGauge (l : Link) (tag : Byte) (a : GaugeArg) (s : State) : Host.Outcome State Fault Refusal :=
  finish (takeRequest l tag (.mapGauge a) s)

/-- UNMAP GAUGE (R78). -/
def execUnmapGauge (l : Link) (tag : Byte) (gauge : Nat) (s : State) : Host.Outcome State Fault Refusal :=
  finish (takeRequest l tag (.unmapGauge gauge) s)

/-- SET GROUP (R82). -/
def execSetGroup (l : Link) (tag : Byte) (group : Nat) (gauges : List Nat) (s : State) : Host.Outcome State Fault Refusal :=
  finish (takeRequest l tag (.setGroup group gauges) s)

/-- SET ZERO (R81). -/
def execSetZero (l : Link) (tag : Byte) (gauge : Nat) (zero : Int) (s : State) : Host.Outcome State Fault Refusal :=
  finish (takeRequest l tag (.setZero gauge zero) s)

/-- CLEAR REFERENCE (R85). -/
def execClearReference (l : Link) (tag : Byte) (gauge : Nat) (s : State) : Host.Outcome State Fault Refusal :=
  finish (takeRequest l tag (.clearReference gauge) s)

/-- CLEAR REFERENCE ALL (R85). -/
def execClearReferenceAll (l : Link) (tag : Byte) (s : State) : Host.Outcome State Fault Refusal :=
  finish (takeRequest l tag .clearReferenceAll s)

/-- READ GAUGES BY RANGE (R89). -/
def execReadGaugesByRange (l : Link) (tag : Byte) (first : Nat) (count : Nat) (s : State) : Host.Outcome State Fault Refusal :=
  finish (takeRequest l tag (.readGaugesByRange first count) s)

/-- READ GAUGES BY GROUP (R89). -/
def execReadGaugesByGroup (l : Link) (tag : Byte) (group : Nat) (start : Nat) (count : Nat) (s : State) : Host.Outcome State Fault Refusal :=
  finish (takeRequest l tag (.readGaugesByGroup group start count) s)

/-- WRITE PLAN ENTRY (R93). -/
def execWritePlanEntry (l : Link) (tag : Byte) (a : PlanArg) (s : State) : Host.Outcome State Fault Refusal :=
  finish (takeRequest l tag (.writePlanEntry a) s)

/-- SET PLAN MODE (R94). -/
def execSetPlanMode (l : Link) (tag : Byte) (mode : Nat) (last : Nat) (s : State) : Host.Outcome State Fault Refusal :=
  finish (takeRequest l tag (.setPlanMode mode last) s)

/-- SET SURVEY SETTINGS (R94). -/
def execSetSurveySettings (l : Link) (tag : Byte) (zeroWindow : Int) (minSpan : Int) (s : State) : Host.Outcome State Fault Refusal :=
  finish (takeRequest l tag (.setSurveySettings zeroWindow minSpan) s)

/-- START PLAN (R95). -/
def execStartPlan (l : Link) (tag : Byte) (index : Nat) (s : State) : Host.Outcome State Fault Refusal :=
  finishPlan (takeRequest l tag (.startPlan index) s)

/-- CONTINUE PLAN (R100). -/
def execContinuePlan (l : Link) (tag : Byte) (s : State) : Host.Outcome State Fault Refusal :=
  finishPlan (takeRequest l tag .continuePlan s)

/-- EXTEND PLAN (R100). -/
def execExtendPlan (l : Link) (tag : Byte) (index : Nat) (s : State) : Host.Outcome State Fault Refusal :=
  finishPlan (takeRequest l tag (.extendPlan index) s)

/-- STOP PLAN (R111). -/
def execStopPlan (l : Link) (tag : Byte) (s : State) : Host.Outcome State Fault Refusal :=
  finish (takeRequest l tag .stopPlan s)

/-- RELEASE SET (R112). -/
def execReleaseSet (l : Link) (tag : Byte) (index : Nat) (s : State) : Host.Outcome State Fault Refusal :=
  finish (takeRequest l tag (.releaseSet index) s)

/-- CLEAR PLAN (R112). -/
def execClearPlan (l : Link) (tag : Byte) (s : State) : Host.Outcome State Fault Refusal :=
  finish (takeRequest l tag .clearPlan s)

/-- SURVEY NOW (R113). -/
def execSurveyNow (l : Link) (tag : Byte) (group : Nat) (scans : Nat) (s : State) : Host.Outcome State Fault Refusal :=
  finish (takeRequest l tag (.surveyNow group scans) s)

/-- READ PLAN ENTRY (R117). -/
def execReadPlanEntry (l : Link) (tag : Byte) (index : Nat) (s : State) : Host.Outcome State Fault Refusal :=
  finish (takeRequest l tag (.readPlanEntry index) s)

/-- READ STORE (R127). -/
def execReadStore (l : Link) (tag : Byte) (count : Nat) (s : State) : Host.Outcome State Fault Refusal :=
  finish (takeRequest l tag (.readStore count) s)

/-- RELEASE STORE (R128). -/
def execReleaseStore (l : Link) (tag : Byte) (number : Nat) (s : State) : Host.Outcome State Fault Refusal :=
  finishPlan (takeRequest l tag (.releaseStore number) s)

/-- CLEAR STORE (R129). -/
def execClearStore (l : Link) (tag : Byte) (s : State) : Host.Outcome State Fault Refusal :=
  finishPlan (takeRequest l tag .clearStore s)

/-- STORE STATUS (R130). -/
def execStoreStatus (l : Link) (tag : Byte) (s : State) : Host.Outcome State Fault Refusal :=
  finish (takeRequest l tag .storeStatus s)

/-- SET STORE MARKS (R131). -/
def execSetStoreMarks (l : Link) (tag : Byte) (high : Nat) (low : Nat) (s : State) : Host.Outcome State Fault Refusal :=
  finish (takeRequest l tag (.setStoreMarks high low) s)

/-- SET LOOP (R135). -/
def execSetLoop (l : Link) (tag : Byte) (loop : Nat) (use : Nat) (debounce : Nat) (level : Nat) (s : State) : Host.Outcome State Fault Refusal :=
  finish (takeRequest l tag (.setLoop loop use debounce level) s)

/-- SET AE CHANNEL (R140). -/
def execSetAeChannel (l : Link) (tag : Byte) (chan : Nat) (use : Nat) (window : Nat) (warn : Nat) (alarm : Nat) (s : State) : Host.Outcome State Fault Refusal :=
  finish (takeRequest l tag (.setAeChannel chan use window warn alarm) s)

/-- READ CRACK STATUS SUMMARY (R147). -/
def execReadCrackStatusSummary (l : Link) (tag : Byte) (s : State) : Host.Outcome State Fault Refusal :=
  finish (takeRequest l tag .readCrackStatusSummary s)

/-- READ CRACK STATUS RING (R147). -/
def execReadCrackStatusRing (l : Link) (tag : Byte) (chan : Nat) (s : State) : Host.Outcome State Fault Refusal :=
  finish (takeRequest l tag (.readCrackStatusRing chan) s)

/-- CLEAR CAUTION (R145). -/
def execClearCaution (l : Link) (tag : Byte) (s : State) : Host.Outcome State Fault Refusal :=
  finish (takeRequest l tag .clearCaution s)

/-- SET CAUSE (R155). -/
def execSetCause (l : Link) (tag : Byte) (kind : Nat) (level : Nat) (mask : Nat) (s : State) : Host.Outcome State Fault Refusal :=
  finish (takeRequest l tag (.setCause kind level mask) s)

/-- ARM (R162). -/
def execArm (l : Link) (tag : Byte) (s : State) : Host.Outcome State Fault Refusal :=
  finish (takeRequest l tag .arm s)

/-- RESUME ALARM (R163). -/
def execResumeAlarm (l : Link) (tag : Byte) (s : State) : Host.Outcome State Fault Refusal :=
  finish (takeRequest l tag .resumeAlarm s)

/-- READ ALARMS (R167). -/
def execReadAlarms (l : Link) (tag : Byte) (s : State) : Host.Outcome State Fault Refusal :=
  finish (takeRequest l tag .readAlarms s)

/-- TAKE ALARMS (R168). -/
def execTakeAlarms (l : Link) (tag : Byte) (s : State) : Host.Outcome State Fault Refusal :=
  finish (takeRequest l tag .takeAlarms s)

end Sys2Proof.Machine
end

