-- ==== Sys2Proof/Machine/Events.lean ====
section
/-! DEFINITION. The meanings of the events: time, arrivals, lines, resets, the links, and what comes about inside another
event (spec/95), which is that whole event, taken when it brings the thing about (log 3). -/

namespace Sys2Proof.Machine

/-- R169: a servo period, whole. -/
def execServoPeriodExpiry (s : State) : Host.Outcome State Fault Refusal :=
  finishPlan (servoPeriod s)

/-- R170: the servo period at which hall time advances; at any other, nothing happens (log 3). -/
def execHallTimeAdvance (s : State) : Host.Outcome State Fault Refusal :=
  if hallAdvances s then finishPlan (servoPeriod s) else .next s

/-- R172: the servo period at which the load-on clock advances (log 3). -/
def execLoadClockAdvance (s : State) : Host.Outcome State Fault Refusal :=
  if loadClockAdvances s then finishPlan (servoPeriod s) else .next s

/-- R36. -/
def execFeedbackArrival (channels : List FeedbackIn) (s : State) : Host.Outcome State Fault Refusal :=
  .next (takeFeedback channels s)

/-- R73. -/
def execScanArrival (module : Nat) (inputs : List RatioIn) (s : State) : Host.Outcome State Fault Refusal :=
  finishPlan (takeScan module inputs s)

/-- R136. -/
def execLoopSample (opens : List Bool) (s : State) : Host.Outcome State Fault Refusal :=
  finish (takeSample opens s)

/-- R141. -/
def execWindowReport (chan : Nat) (hits : Nat) (s : State) : Host.Outcome State Fault Refusal :=
  finish (takeWindow chan hits s)

/-- R152. -/
def execEstopAsserted (s : State) : Host.Outcome State Fault Refusal :=
  finish (assertLine s)

/-- R152. -/
def execEstopClear (s : State) : Host.Outcome State Fault Refusal :=
  finish (clearLine s)

/-- R195: the part reset with the line and the straps as they stand at power-on; commands not yet taken stay in the
queue (log 29). -/
def execPowerOn (line : Bool) (straps : Straps) (s : State) : Host.Outcome State Fault Refusal :=
  .next (State.resetWith { estop := line, straps := straps } s.pending)

/-- R195: the part reset, with the pins as they stand. -/
def execResetPin (s : State) : Host.Outcome State Fault Refusal :=
  .next (State.resetWith s.pins s.pending)

/-- R195: the end of the OK to a PART RESET resets the part (log 3, 27). -/
def execResetAfterOk (s : State) : Host.Outcome State Fault Refusal :=
  if sendingResetOk s then .next (State.resetWith s.pins s.pending) else .next s

/-- R74: the servo period at which the module becomes SILENT (log 3). -/
def execModuleSilence (module : Fin 16) (s : State) : Host.Outcome State Fault Refusal :=
  if bringsModuleSilence module s then finishPlan (servoPeriod s) else .next s

/-- R138: the servo period at which the crack front-end becomes SILENT (log 3). -/
def execFrontendSilence (s : State) : Host.Outcome State Fault Refusal :=
  if bringsFrontendSilence s then finishPlan (servoPeriod s) else .next s

/-- R143: the servo period at which the channel becomes SILENT (log 3). -/
def execChannelSilence (chan : Fin 8) (s : State) : Host.Outcome State Fault Refusal :=
  if bringsChannelSilence chan s then finishPlan (servoPeriod s) else .next s

/-- R37: the servo period at which the count reaches 8 (log 3). -/
def execSensorStart (act : Fin 8) (s : State) : Host.Outcome State Fault Refusal :=
  if bringsSensorStart act s then finishPlan (servoPeriod s) else .next s

/-- R54: the servo period at which TWIST starts for the frame (log 3). -/
def execTwistStart (frame : Fin 4) (s : State) : Host.Outcome State Fault Refusal :=
  if bringsTwistStart frame s then finishPlan (servoPeriod s) else .next s

/-- R17: the servo period at which a HOLD's count reaches D, or stands there (log 3). -/
def execHoldDurationExpiry (s : State) : Host.Outcome State Fault Refusal :=
  if bringsHoldExpiry s then finishPlan (servoPeriod s) else .next s

/-- R19: the servo period at which a cycle completes (log 3). -/
def execCycleCompletion (s : State) : Host.Outcome State Fault Refusal :=
  if bringsCycleCompletion s then finishPlan (servoPeriod s) else .next s

/-- R101: the servo period at which the settle count reaches the settle (log 3). -/
def execSettleExpiry (s : State) : Host.Outcome State Fault Refusal :=
  if bringsSettleExpiry s then finishPlan (servoPeriod s) else .next s

/-- R104: the scan arrival that is the last a collection waits for (log 3). -/
def execCollectionEnd (module : Nat) (inputs : List RatioIn) (s : State) : Host.Outcome State Fault Refusal :=
  if scanEndsCollection module inputs s then finishPlan (takeScan module inputs s) else .next s

/-- R50: the servo period at which the unload completes (log 3). -/
def execUnloadCompletion (s : State) : Host.Outcome State Fault Refusal :=
  if bringsUnloadCompletion s then finishPlan (servoPeriod s) else .next s

/-- R124: the RELEASE STORE of the Director that lets a stalled record in (log 3). -/
def execStalledRecordEntry (tag : Byte) (number : Nat) (s : State) : Host.Outcome State Fault Refusal :=
  if mayTake .director s && releaseAdmits number s then finishPlan (takeRequest .director tag (.releaseStore number) s)
  else .next s

/-- R192: the servo period at which hall time reaches the deadline of the slot (log 3). -/
def execReplyTimeout (l : Link) (slot : Fin 2) (s : State) : Host.Outcome State Fault Refusal :=
  if bringsReplyTimeout l slot s then finishPlan (servoPeriod s) else .next s

/-- R178. -/
def execGapTimerExpiry (l : Link) (s : State) : Host.Outcome State Fault Refusal :=
  .next (abandonFrame l s)

/-- R178. -/
def execLineBreak (l : Link) (s : State) : Host.Outcome State Fault Refusal :=
  .next (abandonFrame l s)

/-- R177: the character that shows a length above 1,024 (log 3). -/
def execOversizeDiscard (l : Link) (c : Byte) (s : State) : Host.Outcome State Fault Refusal :=
  if showsOversize l c s then finishPlan (receive l c s) else .next s

/-- R177: the character that completes a frame whose CRC differs (log 3). -/
def execBadCrcDiscard (l : Link) (c : Byte) (s : State) : Host.Outcome State Fault Refusal :=
  if showsBadCrc l c s then finishPlan (receive l c s) else .next s

/-- R184, R195: the frame being sent is finished, and the transmitter takes up the next; the end of the OK to a PART
RESET resets the part. -/
def execFrameSent (l : Link) (s : State) : Host.Outcome State Fault Refusal :=
  match (s.link l).tx with
  | none => .next s
  | some _ =>
      if l = .director ∧ sendingResetOk s = true then .next (State.resetWith s.pins s.pending)
      else finish (s.updLink l finishFrame)

/-- R180: a complete frame whose kind is no request kind. -/
def execBadKind (l : Link) (kind : Byte) (tag : Byte) (s : State) : Host.Outcome State Fault Refusal :=
  if isRequestKind kind then .next s else finish (takeFrame l kind tag [] s)

/-- R177. -/
def execCharacterReceived (l : Link) (c : Byte) (s : State) : Host.Outcome State Fault Refusal :=
  finishPlan (receive l c s)

end Sys2Proof.Machine
end

