-- ==== Sys2Proof/Machine/Dispatch.lean ====
section
/-! DEFINITION. The dispatch: one arm for each command. -/

namespace Sys2Proof.Machine

def exec (i : Instr) (s : State) : Host.Outcome State Fault Refusal :=
  match i with
  | .servoPeriodExpiry => Sys2Proof.Machine.execServoPeriodExpiry s
  | .hallTimeAdvance => Sys2Proof.Machine.execHallTimeAdvance s
  | .loadClockAdvance => Sys2Proof.Machine.execLoadClockAdvance s
  | .feedbackArrival channels => Sys2Proof.Machine.execFeedbackArrival channels s
  | .scanArrival module inputs => Sys2Proof.Machine.execScanArrival module inputs s
  | .loopSample opens => Sys2Proof.Machine.execLoopSample opens s
  | .windowReport chan hits => Sys2Proof.Machine.execWindowReport chan hits s
  | .estopAsserted => Sys2Proof.Machine.execEstopAsserted s
  | .estopClear => Sys2Proof.Machine.execEstopClear s
  | .powerOn line straps => Sys2Proof.Machine.execPowerOn line straps s
  | .resetPin => Sys2Proof.Machine.execResetPin s
  | .resetAfterOk => Sys2Proof.Machine.execResetAfterOk s
  | .moduleSilence module => Sys2Proof.Machine.execModuleSilence module s
  | .frontendSilence => Sys2Proof.Machine.execFrontendSilence s
  | .channelSilence chan => Sys2Proof.Machine.execChannelSilence chan s
  | .sensorStart act => Sys2Proof.Machine.execSensorStart act s
  | .twistStart frame => Sys2Proof.Machine.execTwistStart frame s
  | .holdDurationExpiry => Sys2Proof.Machine.execHoldDurationExpiry s
  | .cycleCompletion => Sys2Proof.Machine.execCycleCompletion s
  | .settleExpiry => Sys2Proof.Machine.execSettleExpiry s
  | .collectionEnd module inputs => Sys2Proof.Machine.execCollectionEnd module inputs s
  | .unloadCompletion => Sys2Proof.Machine.execUnloadCompletion s
  | .stalledRecordEntry tag number => Sys2Proof.Machine.execStalledRecordEntry tag number s
  | .replyTimeout l slot => Sys2Proof.Machine.execReplyTimeout l slot s
  | .gapTimerExpiry l => Sys2Proof.Machine.execGapTimerExpiry l s
  | .lineBreak l => Sys2Proof.Machine.execLineBreak l s
  | .oversizeDiscard l c => Sys2Proof.Machine.execOversizeDiscard l c s
  | .badCrcDiscard l c => Sys2Proof.Machine.execBadCrcDiscard l c s
  | .frameSent l => Sys2Proof.Machine.execFrameSent l s
  | .badKind l kind tag => Sys2Proof.Machine.execBadKind l kind tag s
  | .status l tag => Sys2Proof.Machine.execStatus l tag s
  | .subscribe l tag classes => Sys2Proof.Machine.execSubscribe l tag classes s
  | .setReplyTimeout l tag seconds => Sys2Proof.Machine.execSetReplyTimeout l tag seconds s
  | .partReset l tag => Sys2Proof.Machine.execPartReset l tag s
  | .readTime l tag => Sys2Proof.Machine.execReadTime l tag s
  | .resetLoadClock l tag => Sys2Proof.Machine.execResetLoadClock l tag s
  | .appendSegment l tag seg => Sys2Proof.Machine.execAppendSegment l tag seg s
  | .writeSegment l tag index seg => Sys2Proof.Machine.execWriteSegment l tag index seg s
  | .clearProgram l tag => Sys2Proof.Machine.execClearProgram l tag s
  | .readSegment l tag index => Sys2Proof.Machine.execReadSegment l tag index s
  | .run l tag => Sys2Proof.Machine.execRun l tag s
  | .restart l tag index => Sys2Proof.Machine.execRestart l tag index s
  | .hold l tag => Sys2Proof.Machine.execHold l tag s
  | .resume l tag => Sys2Proof.Machine.execResume l tag s
  | .openGate l tag id => Sys2Proof.Machine.execOpenGate l tag id s
  | .sequencerStatus l tag => Sys2Proof.Machine.execSequencerStatus l tag s
  | .setActuator l tag a => Sys2Proof.Machine.execSetActuator l tag a s
  | .setFrame l tag index limit confirm => Sys2Proof.Machine.execSetFrame l tag index limit confirm s
  | .setAlignment l tag rate => Sys2Proof.Machine.execSetAlignment l tag rate s
  | .readActuator l tag index => Sys2Proof.Machine.execReadActuator l tag index s
  | .setCycleAccounting l tag a => Sys2Proof.Machine.execSetCycleAccounting l tag a s
  | .readCycles l tag => Sys2Proof.Machine.execReadCycles l tag s
  | .resetCycleCounters l tag => Sys2Proof.Machine.execResetCycleCounters l tag s
  | .setStiffnessReference l tag index value => Sys2Proof.Machine.execSetStiffnessReference l tag index value s
  | .clearStiffnessReference l tag index => Sys2Proof.Machine.execClearStiffnessReference l tag index s
  | .mapGauge l tag a => Sys2Proof.Machine.execMapGauge l tag a s
  | .unmapGauge l tag gauge => Sys2Proof.Machine.execUnmapGauge l tag gauge s
  | .setGroup l tag group gauges => Sys2Proof.Machine.execSetGroup l tag group gauges s
  | .setZero l tag gauge zero => Sys2Proof.Machine.execSetZero l tag gauge zero s
  | .clearReference l tag gauge => Sys2Proof.Machine.execClearReference l tag gauge s
  | .clearReferenceAll l tag => Sys2Proof.Machine.execClearReferenceAll l tag s
  | .readGaugesByRange l tag first count => Sys2Proof.Machine.execReadGaugesByRange l tag first count s
  | .readGaugesByGroup l tag group start count => Sys2Proof.Machine.execReadGaugesByGroup l tag group start count s
  | .writePlanEntry l tag a => Sys2Proof.Machine.execWritePlanEntry l tag a s
  | .setPlanMode l tag mode last => Sys2Proof.Machine.execSetPlanMode l tag mode last s
  | .setSurveySettings l tag zeroWindow minSpan => Sys2Proof.Machine.execSetSurveySettings l tag zeroWindow minSpan s
  | .startPlan l tag index => Sys2Proof.Machine.execStartPlan l tag index s
  | .continuePlan l tag => Sys2Proof.Machine.execContinuePlan l tag s
  | .extendPlan l tag index => Sys2Proof.Machine.execExtendPlan l tag index s
  | .stopPlan l tag => Sys2Proof.Machine.execStopPlan l tag s
  | .releaseSet l tag index => Sys2Proof.Machine.execReleaseSet l tag index s
  | .clearPlan l tag => Sys2Proof.Machine.execClearPlan l tag s
  | .surveyNow l tag group scans => Sys2Proof.Machine.execSurveyNow l tag group scans s
  | .readPlanEntry l tag index => Sys2Proof.Machine.execReadPlanEntry l tag index s
  | .readStore l tag count => Sys2Proof.Machine.execReadStore l tag count s
  | .releaseStore l tag number => Sys2Proof.Machine.execReleaseStore l tag number s
  | .clearStore l tag => Sys2Proof.Machine.execClearStore l tag s
  | .storeStatus l tag => Sys2Proof.Machine.execStoreStatus l tag s
  | .setStoreMarks l tag high low => Sys2Proof.Machine.execSetStoreMarks l tag high low s
  | .setLoop l tag loop use debounce level => Sys2Proof.Machine.execSetLoop l tag loop use debounce level s
  | .setAeChannel l tag chan use window warn alarm => Sys2Proof.Machine.execSetAeChannel l tag chan use window warn alarm s
  | .readCrackStatusSummary l tag => Sys2Proof.Machine.execReadCrackStatusSummary l tag s
  | .readCrackStatusRing l tag chan => Sys2Proof.Machine.execReadCrackStatusRing l tag chan s
  | .clearCaution l tag => Sys2Proof.Machine.execClearCaution l tag s
  | .setCause l tag kind level mask => Sys2Proof.Machine.execSetCause l tag kind level mask s
  | .arm l tag => Sys2Proof.Machine.execArm l tag s
  | .resumeAlarm l tag => Sys2Proof.Machine.execResumeAlarm l tag s
  | .readAlarms l tag => Sys2Proof.Machine.execReadAlarms l tag s
  | .takeAlarms l tag => Sys2Proof.Machine.execTakeAlarms l tag s
  | .characterReceived l c => Sys2Proof.Machine.execCharacterReceived l c s

end Sys2Proof.Machine
end

