-- ==== Sys2Proof/WellFormed.lean ====
section
/-! DEFINITION. Well-formed commands: every operand within the field or the port that carries it (11 R196, R198, R199;
02 R36, 04 R73, 07 R136, R141).  A value that a field carries and a rule refuses or clamps is well formed. -/

namespace Sys2Proof

/-- An unsigned field of `n` bytes holds it. -/
def fitsNat (n v : Nat) : Bool := decide (v < 256 ^ n)

/-- A two's complement field of `n` bytes holds it. -/
def fitsInt (n : Nat) (v : Int) : Bool := decide (-(128 * 256 ^ (n - 1) : Int) ≤ v ∧ v < (128 * 256 ^ (n - 1) : Int))

def FeedbackIn.wellFormed (f : FeedbackIn) : Bool := fitsInt 4 f.force && fitsInt 4 f.disp

def RatioIn.wellFormed (r : RatioIn) : Bool := fitsInt 4 r.ratio

def SegArg.wellFormed : SegArg → Bool
  | .ramp t r => fitsInt 4 t && fitsNat 4 r
  | .hold d m => fitsNat 4 d && fitsNat 1 m
  | .cycle v k h n o => fitsInt 4 v && fitsInt 4 k && fitsNat 2 h && fitsNat 4 n && fitsNat 1 o
  | .gate i c => fitsNat 1 i && fitsNat 1 c
  | .jump t n => fitsNat 1 t && fitsNat 2 n
  | .unknown k => fitsNat 1 k && decide (5 ≤ k)

def ActuatorArg.wellFormed (a : ActuatorArg) : Bool :=
  fitsNat 1 a.index && fitsNat 1 a.use && fitsNat 1 a.frame && fitsNat 1 a.polarity && fitsNat 2 a.share
    && fitsInt 4 a.fmin && fitsInt 4 a.fmax && fitsInt 4 a.trip && fitsInt 4 a.dmin && fitsInt 4 a.dmax
    && fitsNat 2 a.kp && fitsNat 2 a.ki && fitsInt 4 a.rest && fitsNat 4 a.unloadRate && fitsNat 4 a.peakTol

def CycleArg.wellFormed (a : CycleArg) : Bool :=
  fitsNat 1 a.tracking && fitsNat 4 a.stroke && fitsNat 1 a.capture && fitsNat 2 a.drop && fitsNat 1 a.dropRun
    && fitsNat 4 a.decimation && fitsNat 1 a.exceptions

def GaugeArg.wellFormed (a : GaugeArg) : Bool :=
  fitsNat 1 a.gauge && fitsNat 1 a.module && fitsNat 1 a.input && fitsNat 1 a.bridge && fitsNat 2 a.gfm
    && fitsNat 1 a.watch && fitsNat 4 a.band && fitsNat 1 a.confirm

def PlanArg.wellFormed (a : PlanArg) : Bool :=
  fitsNat 1 a.index && fitsNat 1 a.kind && fitsNat 1 a.group && fitsNat 1 a.trigger && fitsNat 2 a.scans
    && fitsNat 2 a.settle && fitsNat 4 a.interval && fitsNat 1 a.next && fitsNat 1 a.marks

/-- The fields of a request fit the payload of its kind. -/
def Request.wellFormed : Request → Bool
  | .subscribe c => fitsNat 1 c
  | .setReplyTimeout t => fitsNat 2 t
  | .appendSegment g => g.wellFormed
  | .writeSegment i g => fitsNat 1 i && g.wellFormed
  | .readSegment i | .restart i | .openGate i | .readActuator i | .clearStiffnessReference i | .unmapGauge i
  | .clearReference i | .startPlan i | .extendPlan i | .releaseSet i | .readPlanEntry i | .readStore i
  | .readCrackStatusRing i => fitsNat 1 i
  | .setActuator a => a.wellFormed
  | .setFrame i l c => fitsNat 1 i && fitsNat 4 l && fitsNat 2 c
  | .setAlignment r => fitsNat 4 r
  | .setCycleAccounting a => a.wellFormed
  | .setStiffnessReference i v => fitsNat 1 i && fitsNat 4 v
  | .mapGauge a => a.wellFormed
  | .setGroup g l => fitsNat 1 g && decide (l.length < 256) && l.all (fitsNat 1)
  | .setZero g z => fitsNat 1 g && fitsInt 4 z
  | .readGaugesByRange f n => fitsNat 1 f && fitsNat 1 n
  | .readGaugesByGroup g p n => fitsNat 1 g && fitsNat 1 p && fitsNat 1 n
  | .writePlanEntry a => a.wellFormed
  | .setPlanMode m j => fitsNat 1 m && fitsNat 1 j
  | .setSurveySettings z m => fitsInt 4 z && fitsInt 4 m
  | .surveyNow g a => fitsNat 1 g && fitsNat 2 a
  | .releaseStore n => fitsNat 4 n
  | .setStoreMarks h l => fitsNat 2 h && fitsNat 2 l
  | .setLoop i u b l => fitsNat 1 i && fitsNat 1 u && fitsNat 1 b && fitsNat 1 l
  | .setAeChannel i u w t a => fitsNat 1 i && fitsNat 1 u && fitsNat 1 w && fitsNat 4 t && fitsNat 4 a
  | .setCause k l m => fitsNat 1 k && fitsNat 1 l && fitsNat 1 m
  | .status | .partReset | .readTime | .resetLoadClock | .clearProgram | .run | .hold | .resume | .sequencerStatus
  | .readCycles | .resetCycleCounters | .clearReferenceAll | .continuePlan | .stopPlan | .clearPlan | .clearStore
  | .storeStatus | .readCrackStatusSummary | .clearCaution | .arm | .resumeAlarm | .readAlarms | .takeAlarms => true

/-- The request a command is, with its link and tag; `none` for an event. -/
def Instr.request : Instr → Option (Link × Byte × Request)
  | .servoPeriodExpiry => none
  | .hallTimeAdvance => none
  | .loadClockAdvance => none
  | .feedbackArrival _ => none
  | .scanArrival _ _ => none
  | .loopSample _ => none
  | .windowReport _ _ => none
  | .estopAsserted => none
  | .estopClear => none
  | .powerOn _ _ => none
  | .resetPin => none
  | .resetAfterOk => none
  | .moduleSilence _ => none
  | .frontendSilence => none
  | .channelSilence _ => none
  | .sensorStart _ => none
  | .twistStart _ => none
  | .holdDurationExpiry => none
  | .cycleCompletion => none
  | .settleExpiry => none
  | .collectionEnd _ _ => none
  | .unloadCompletion => none
  | .stalledRecordEntry _ _ => none
  | .replyTimeout _ _ => none
  | .gapTimerExpiry _ => none
  | .lineBreak _ => none
  | .oversizeDiscard _ _ => none
  | .badCrcDiscard _ _ => none
  | .frameSent _ => none
  | .badKind _ _ _ => none
  | .status l tag => some (l, tag, .status)
  | .subscribe l tag classes => some (l, tag, .subscribe classes)
  | .setReplyTimeout l tag seconds => some (l, tag, .setReplyTimeout seconds)
  | .partReset l tag => some (l, tag, .partReset)
  | .readTime l tag => some (l, tag, .readTime)
  | .resetLoadClock l tag => some (l, tag, .resetLoadClock)
  | .appendSegment l tag seg => some (l, tag, .appendSegment seg)
  | .writeSegment l tag index seg => some (l, tag, .writeSegment index seg)
  | .clearProgram l tag => some (l, tag, .clearProgram)
  | .readSegment l tag index => some (l, tag, .readSegment index)
  | .run l tag => some (l, tag, .run)
  | .restart l tag index => some (l, tag, .restart index)
  | .hold l tag => some (l, tag, .hold)
  | .resume l tag => some (l, tag, .resume)
  | .openGate l tag id => some (l, tag, .openGate id)
  | .sequencerStatus l tag => some (l, tag, .sequencerStatus)
  | .setActuator l tag a => some (l, tag, .setActuator a)
  | .setFrame l tag index limit confirm => some (l, tag, .setFrame index limit confirm)
  | .setAlignment l tag rate => some (l, tag, .setAlignment rate)
  | .readActuator l tag index => some (l, tag, .readActuator index)
  | .setCycleAccounting l tag a => some (l, tag, .setCycleAccounting a)
  | .readCycles l tag => some (l, tag, .readCycles)
  | .resetCycleCounters l tag => some (l, tag, .resetCycleCounters)
  | .setStiffnessReference l tag index value => some (l, tag, .setStiffnessReference index value)
  | .clearStiffnessReference l tag index => some (l, tag, .clearStiffnessReference index)
  | .mapGauge l tag a => some (l, tag, .mapGauge a)
  | .unmapGauge l tag gauge => some (l, tag, .unmapGauge gauge)
  | .setGroup l tag group gauges => some (l, tag, .setGroup group gauges)
  | .setZero l tag gauge zero => some (l, tag, .setZero gauge zero)
  | .clearReference l tag gauge => some (l, tag, .clearReference gauge)
  | .clearReferenceAll l tag => some (l, tag, .clearReferenceAll)
  | .readGaugesByRange l tag first count => some (l, tag, .readGaugesByRange first count)
  | .readGaugesByGroup l tag group start count => some (l, tag, .readGaugesByGroup group start count)
  | .writePlanEntry l tag a => some (l, tag, .writePlanEntry a)
  | .setPlanMode l tag mode last => some (l, tag, .setPlanMode mode last)
  | .setSurveySettings l tag zeroWindow minSpan => some (l, tag, .setSurveySettings zeroWindow minSpan)
  | .startPlan l tag index => some (l, tag, .startPlan index)
  | .continuePlan l tag => some (l, tag, .continuePlan)
  | .extendPlan l tag index => some (l, tag, .extendPlan index)
  | .stopPlan l tag => some (l, tag, .stopPlan)
  | .releaseSet l tag index => some (l, tag, .releaseSet index)
  | .clearPlan l tag => some (l, tag, .clearPlan)
  | .surveyNow l tag group scans => some (l, tag, .surveyNow group scans)
  | .readPlanEntry l tag index => some (l, tag, .readPlanEntry index)
  | .readStore l tag count => some (l, tag, .readStore count)
  | .releaseStore l tag number => some (l, tag, .releaseStore number)
  | .clearStore l tag => some (l, tag, .clearStore)
  | .storeStatus l tag => some (l, tag, .storeStatus)
  | .setStoreMarks l tag high low => some (l, tag, .setStoreMarks high low)
  | .setLoop l tag loop use debounce level => some (l, tag, .setLoop loop use debounce level)
  | .setAeChannel l tag chan use window warn alarm => some (l, tag, .setAeChannel chan use window warn alarm)
  | .readCrackStatusSummary l tag => some (l, tag, .readCrackStatusSummary)
  | .readCrackStatusRing l tag chan => some (l, tag, .readCrackStatusRing chan)
  | .clearCaution l tag => some (l, tag, .clearCaution)
  | .setCause l tag kind level mask => some (l, tag, .setCause kind level mask)
  | .arm l tag => some (l, tag, .arm)
  | .resumeAlarm l tag => some (l, tag, .resumeAlarm)
  | .readAlarms l tag => some (l, tag, .readAlarms)
  | .takeAlarms l tag => some (l, tag, .takeAlarms)
  | .characterReceived _ _ => none

/-- A scan as the bridge port delivers it: a module number of one byte and sixteen inputs. -/
def scanWellFormed (module : Nat) (inputs : List RatioIn) : Bool :=
  fitsNat 1 module && decide (inputs.length = 16) && inputs.all RatioIn.wellFormed

/-- The operands of an event fit the port that brings it; those of a request, its payload. -/
def Instr.wellFormed : Instr → Bool
  | .feedbackArrival channels => decide (channels.length = 8) && channels.all FeedbackIn.wellFormed
  | .scanArrival m inputs => scanWellFormed m inputs
  | .collectionEnd m inputs => scanWellFormed m inputs
  | .loopSample opens => decide (opens.length = 32)
  | .windowReport chan hits => fitsNat 1 chan && fitsNat 2 hits
  | .stalledRecordEntry _ n => fitsNat 4 n
  | i =>
      match i.request with
      | some (_, _, r) => r.wellFormed
      | none => true

end Sys2Proof
end

