-- ==== Sys2Proof/Safety.lean ====
section
/-! DEFINITION. What counts as a safe state, in the terms the statements use: the conditions on a state under which a
command completes, and the invariants that every step keeps. -/

namespace Sys2Proof.Safety

open Sys2Proof.Machine

/-! ### Conditions on a state -/

/-- The survey plan neither waits nor collects (05 R91): no chain of completions can run. -/
abbrev PlanQuiet (s : State) : Prop :=
  (s.sve.state = .off ∨ s.sve.state = .held) ∧ s.sve.stalledRec = none ∧ s.sve.endless = false

/-- Nor does a demand survey. -/
abbrev SurveysQuiet (s : State) : Prop := PlanQuiet s ∧ s.sve.demand = [] ∧ s.sve.work = .idle

/-- The link takes a request (10 R180, R195): no part reset waits and the reply queue has a place.  With a place free
no deferred reply waits READY (`LinkSound`). -/
abbrev Accepts (l : Link) (s : State) : Prop :=
  s.lki.resetPending = false ∧ (s.link l).replies.length < 4 ∧ (s.link l).readyOrder = []

/-- What stands after an event whose one effect on the links is this reply on `l` (10 R181): the reply joins the back of
the reply queue, and the transmitters take up what waits. -/
def replied (l : Link) (kind tag : Byte) (st : Status) (content : List Byte) (s : State) : State :=
  service (s.updLink l fun k => { k with replies := k.replies ++ [replyFrame kind tag st content] })

/-- No IDLE transmitter leaves anything waiting (10 R184), and no place of the reply queue is free while a deferred reply
waits READY (10 R192). -/
abbrev LinkSettled (k : LinkSt) : Prop :=
  (k.tx = none → k.replies = [] ∧ k.notices = []) ∧ (k.readyOrder ≠ [] → k.replies.length = 4)

abbrev LinksSettled (s : State) : Prop := LinkSettled s.lki.director ∧ LinkSettled s.lki.panel

/-- The requests of 10 R183: those the Panel link may send. -/
def panelRequest : Request → Bool
  | .status | .subscribe _ | .readTime | .readSegment _ | .hold | .resume | .openGate _ | .sequencerStatus
  | .readActuator _ | .readCycles | .readGaugesByRange _ _ | .readGaugesByGroup _ _ _ | .surveyNow _ _
  | .readPlanEntry _ | .readStore _ | .storeStatus | .readCrackStatusSummary | .readCrackStatusRing _
  | .readAlarms => true
  | _ => false

/-- The requests that only read. -/
def readsOnly : Request → Bool
  | .status | .readTime | .readSegment _ | .sequencerStatus | .readActuator _ | .readCycles | .readGaugesByRange _ _
  | .readGaugesByGroup _ _ _ | .readPlanEntry _ | .readStore _ | .storeStatus | .readCrackStatusSummary
  | .readCrackStatusRing _ | .readAlarms => true
  | _ => false

/-- What a reading request asks for exists (01 R7, 02 R35, 04 R89, 05 R117, 06 R127, 07 R147). -/
def readsExisting (s : State) : Request → Bool
  | .readSegment i => decide (i < s.lsq.prog.length)
  | .readActuator i => decide (i < 8)
  | .readGaugesByRange f n => decide (f < 256 ∧ 1 ≤ n ∧ n ≤ 16)
  | .readGaugesByGroup g p n => decide (g < 32 ∧ p < 64 ∧ 1 ≤ n ∧ n ≤ 16)
  | .readPlanEntry i => decide (i < 64)
  | .readStore n => decide (1 ≤ n ∧ n ≤ 255)
  | .readCrackStatusRing i => decide (i < 8)
  | _ => true

/-- A group of items with its presence byte, at its full width filled with 0 where it is absent (11 R196). -/
def group (width : Nat) (items : Option (List Byte)) : List Byte :=
  match items with
  | some l => 1#8 :: l
  | none => List.replicate (width + 1) 0#8

/-- An unsigned field of `width` bytes that may be absent (11 R196). -/
def field (width : Nat) (v : Option Nat) : List Byte := group width (v.map (encNat width))

/-- What SEQUENCER STATUS lists (01 R28): the items in its order, each by 11 R196, R197 and R199. -/
def readsSequencer (l : Link) (s : State) : List Byte :=
  let q := s.lsq
  let cycleHere := match q.running with
    | some r => r.seg.isCycle
    | none => (q.prog[q.pos.index]?).any (fun (e : ProgEntry) => e.seg.isCycle)
  u8 q.state.code ++ u8? q.state.resumeCode? ++ u8 q.prog.length ++ u8 q.pos.index ++ flag q.running.isSome
    ++ group 16 (q.running.map fun (r : Running) => encSegment r.seg)
    ++ i32 (roundDiv q.pFine 1024)
    ++ group 5 (q.running.bind fun (r : Running) => match r.seg with
        | .hold _ _ => some (u32 r.holdCount ++ flag (surveyWaits s.sve false))
        | _ => none)
    ++ group 11 (if cycleHere then
        some (u32 q.pos.cyclesDone
          ++ group 5 ((q.running.bind (·.half)).map fun (h : Half) =>
              u8 (if h.rising then 0 else 1) ++ u16 h.k ++ u16 h.len)
          ++ flag (q.running.any (·.interrupted)))
       else none)
    ++ group 5 (if q.state = .gated ∨ q.state = .paused .gated then
        q.running.bind fun (r : Running) => match r.seg with
          | .gate id need => some (u8 id ++ u8 need.code ++ flag q.consentPanel ++ flag q.consentDirector
              ++ flag (surveyWaits s.sve true))
          | _ => none
       else none)
    ++ u8 (bits [q.claims.director, q.claims.panel, q.claims.store, q.claims.protection]) ++ flag s.ckm.caution
    ++ u8? (q.restart.map (·.index)) ++ field 4 (q.restart.bind (·.cycles)) ++ flag (s.link l).lost

/-- What READ CYCLES lists (03 R70); the lists and the widths of a capture are log 13. -/
def readsCycles (s : State) : List Byte :=
  let c := s.cau
  u32 c.total ++ u32 c.achieved ++ u32 c.outTol ++ u32 c.notJudged ++ flag (decide (c.total = 4294967295))
    ++ u32 c.lost ++ encCycleCfg c.cfg ++ u8 c.trackRun
    ++ (match c.window with
        | none => flag false ++ u8 0
        | some w => flag true ++ listOf (w.acts.map fun q =>
            let cfg := (s.act q.act).cfg
            let set (load : Int) : Int := clampInt cfg.fmin cfg.fmax (roundDiv (load * cfg.share) 1000)
            u8 q.act.val ++ i32? (q.peak.map (·.force)) ++ i32? (q.peak.map (·.disp))
              ++ i32? (q.valley.map (·.force)) ++ i32? (q.valley.map (·.disp))
              ++ i32 (set w.peakLoad) ++ i32 (set w.valleyLoad)))
    ++ ((allFin 8).map fun i =>
        (match c.refs.get i with
         | .none => u8 0 ++ group 9 none ++ field 4 none
         | .capturing n sum => u8 1 ++ group 9 (some (u8 n ++ u64 sum)) ++ field 4 none
         | .valid v => u8 2 ++ group 9 none ++ field 4 (some v)) ++ u8 (c.dropRuns.get i)).flatten
    ++ (match c.last with
        | none => List.replicate 8 0#8
        | some x => flag true ++ u32 x.total ++ u8 x.judgement.code ++ flag x.interrupted
            ++ listOf (x.acts.map fun a =>
                u8 a.act.val ++ field 1 (a.inTol.map Bool.toNat) ++ field 4 a.stiffness))

/-- A gauge record's latest figures are sent while VALID, and as absent otherwise (11 R196; log 37). -/
def readsGauge (s : State) (g : Fin 256) : List Byte :=
  let r := s.gauge g
  let figure (v : Int) : List Byte := if r.validity = .valid then i32 v else [0#8, 0#8, 0#8, 0x80#8]
  u8? (some g.val) ++ u8? (r.mapping.map (·.1.val)) ++ u8? (r.mapping.map (·.2.val))
    ++ u8 r.bridge ++ u16 r.gfm ++ flag r.watch ++ u8 r.confirm ++ u32 r.band ++ i32 r.zero
    ++ figure r.ratio ++ figure r.strain ++ u32 r.at_ ++ u8 r.validity.code ++ u8 r.ref.code ++ u8 r.devRun
    ++ u8 (bits [r.devHolds, r.devFlag])
    ++ (match r.ref with
        | .none => i32? none ++ i32? none ++ i48? none
        | .lowSet p e => i32 p ++ i32 e ++ i48? none
        | .valid p e c => i32 p ++ i32 e ++ i48 c)
    ++ i32? r.lastDev

/-- What READ GAUGES lists (04 R89): the group's length, the gauge records and the module table. -/
def readsGauges (s : State) (groupLength : Nat) (gs : List (Fin 256)) : List Byte :=
  u8 groupLength ++ u8 gs.length ++ (gs.map (readsGauge s)).flatten
    ++ ((allFin 16).map fun m =>
        flag ((allFin 256).any fun g => (s.gauge g).mapping.any (fun x => x.1 == m))
          ++ flag (s.module m).silent ++ u32 (s.module m).last).flatten

/-- What READ PLAN ENTRY lists of the engine (05 R117); the codes of the oldest request's state are log 13. -/
def readsEngine (s : State) : List Byte :=
  let v := s.sve
  u8 v.state.code ++ u8? (v.current.map (·.val)) ++ u8? (v.heldReason.map HeldReason.code) ++ u16 v.setCounter
    ++ flag v.openSet.isSome ++ u8? ((v.openSet.bind (·.first)).map (·.val)) ++ flag v.modeLast
    ++ u8 v.lastIndex.val ++ i32 v.zeroWindow ++ i32 v.minSpan
    ++ (match v.trigger with
        | .untriggered => flag false ++ field 4 none ++ field 8 none
        | .segment _ n => flag true ++ field 4 (some n) ++ field 8 none
        | .target target _ done => flag done ++ field 4 none ++ field 8 (some target))
    ++ field 1 (v.collector.map fun c => (c.gauges.filter fun g => decide (g.arrivals < c.scans)).length)
    ++ u8 v.demand.length
    ++ (match v.work with | .idle => [0xFF#8] | .collecting _ => [0#8] | .stalled _ => [1#8])

/-- What each reading request reads: the items of its rule, in the rule's order (11 R199). -/
def readsAs (l : Link) (s : State) (content : List Byte) : Request → Prop
  | .status =>
      let k := s.link l
      let counts (k : LinkSt) : List Byte := u16 k.gap ++ u16 k.check ++ u16 k.length ++ u16 k.queue
      content = u8 1 ++ u32 s.tmb.hall ++ u8 s.lsq.state.code ++ u8? s.lsq.state.resumeCode?
        ++ u8 s.pru.state.code ++ u8 (demandedLevel s).code ++ flag s.pins.estop
        ++ u8 s.sve.state.code ++ u8 s.sve.demand.length ++ u16 s.cst.records.length ++ flag s.lsq.claims.store
        ++ flag s.ckm.caution ++ u8 (rateCode s.lki.rate) ++ u8 k.subs.toNat ++ flag k.lost
        ++ u8 (k.slots.cells.filter (fun (x : Slot) => decide (x ≠ .free))).length ++ u8 k.replies.length
        ++ u8 k.notices.length ++ counts s.lki.director ++ counts s.lki.panel
  | .readTime =>
      content = u32 s.tmb.hall ++ u16 s.tmb.q ++ u32 s.tmb.loadValue ++ u16 s.tmb.loadPhase
        ++ flag (decide (s.lsq.state = .running ∨ s.lsq.state = .gated))
  | .readSegment i => ∀ e, s.lsq.prog[i]? = some e → content = u8 i ++ encSegment e.seg ++ u16 (e.rep.getD 0)
  | .sequencerStatus => content = readsSequencer l s
  | .readActuator i =>
      ∀ j : Fin 8, j.val = i →
        let a := s.act j
        let f := s.frame a.cfg.frame
        content = encActuator j a.cfg ++ i32 a.force ++ i32 a.disp ++ u8 a.missing ++ i32? a.setpoint
          ++ i32 a.integral ++ i16 a.valve ++ i64 a.offset ++ flag a.unload.isSome ++ i64 (a.unload.getD 0)
          ++ flag a.arrived ++ flag a.overload ++ flag a.limit
          ++ flag (a.cfg.enabled && decide (8 ≤ a.missing))
          ++ u8 a.cfg.frame.val ++ u32 f.limit ++ u16 f.confirm ++ u16 f.count ++ flag f.twist
          ++ i32 s.asa.pm ++ u32 s.asa.alignRate ++ flag s.asa.isolation
  | .readCycles => content = readsCycles s
  | .readGaugesByRange first count => content = readsGauges s 0 (((allFin 256).drop first).take count)
  | .readGaugesByGroup i start count =>
      ∀ j : Fin 32, j.val = i →
        let members := s.ssu.groups.get j
        content = readsGauges s members.length ((members.drop start).take count)
  | .readPlanEntry i =>
      ∀ j : Fin 64, j.val = i →
        content = (match s.entry j with
          | none => List.replicate 15 0#8 ++ [0#8, 0xFF#8, 0#8, 0#8, 0xFF#8]
          | some e => flag true ++ encPlanEntry j e ++ flag e.complete ++ u8? (e.result.map EntryResult.code)
              ++ u16 (e.setNo.getD 0) ++ u8? (e.setLast.map (·.val))) ++ readsEngine s
  | .storeStatus =>
      let records := s.cst.records
      let snaps := (records.filter fun r => match r.body with | .snapshot _ => true | _ => false).length
      let others := records.length - snaps
      content = u16 records.length ++ u16 snaps ++ u16 others ++ u16 (256 - records.length)
        ++ u16 (min (256 - records.length) (252 - others)) ++ u32 s.cst.nextNo
        ++ u32 ((records.head?.map (·.number)).getD 0) ++ u32 ((records.getLast?.map (·.number)).getD 0)
        ++ u16 s.cst.high ++ u16 s.cst.low ++ flag s.cst.armed ++ flag s.lsq.claims.store
        ++ u8 s.cst.stalls.length
        ++ (s.cst.stalls.map fun w => match w, s.sve.demand with
            | .plan, _ => u8 0 ++ u8? (s.sve.current.map (·.val)) ++ u8 0
            | .demand, r :: _ => u8 1 ++ u8 (linkCode r.link) ++ [r.tag]
            | .demand, [] => [1#8, 0xFF#8, 0#8]).flatten
  | .readCrackStatusSummary =>
      content = (s.ckm.loops.cells.map fun x =>
          flag x.used ++ flag x.broken ++ u8 x.debounce ++ u8 x.level.code ++ u8 x.count
            ++ u8? (x.last.map Bool.toNat)).flatten
        ++ flag (s.ckm.loops.cells.any (·.used)) ++ flag s.ckm.feSilent ++ u32 s.ckm.feLast
        ++ (s.ckm.chans.cells.map fun x =>
          flag x.used ++ u8 x.window ++ u32 x.warn ++ u32 x.alarm ++ u32 x.sum ++ flag x.silent ++ u32 x.last
            ++ flag x.aeAlarm ++ flag (decide (x.warn ≤ x.sum))).flatten
        ++ flag s.ckm.caution ++ field 4 s.ckm.cautionAt ++ flag (s.link l).lost
  | .readCrackStatusRing i =>
      ∀ j : Fin 8, j.val = i →
        content = u8 (s.chan j).window ++ ((s.chan j).ring.map u16).flatten ++ u32 (s.chan j).sum
          ++ flag (s.link l).lost
  | .readAlarms =>
      content = u8 s.pru.state.code ++ u32 s.pru.entered ++ u8 (demandedLevel s).code ++ flag s.pins.estop
        ++ u8 11 ++ (allCauses.map fun k =>
            let c := s.cause k
            let n := subjectLen k
            u8 k.code ++ u8? ((causeLevel s k).map (·.code)) ++ flag c.masked
              ++ u8 (bits [decide (c.latched ≠ []), decide (c.active ≠ [])]) ++ u32 (c.stamp.getD 0) ++ u8 n
              ++ bitmap n c.latched ++ bitmap n c.active).flatten
        ++ ((allFin 32).map fun i =>
            u8? (if i.val ∈ (s.cause .crackLoop).latched then some (s.loop i).level.code else none)).flatten
  | _ => True

/-- The segment a RUNNING sequencer works at a period: the running one, or, with none, a fresh working copy of the table's
entry at the position, which is entered (01 R13). -/
def AtWork (q : Lsq) (r : Running) : Prop :=
  q.state = .running
  ∧ (q.running = some r
    ∨ (q.running = none
      ∧ ∃ e, q.prog[q.pos.index]? = some e
        ∧ r = { seg := e.seg, holdCount := 0, half := none, nextRising := true, interrupted := false }))

/-- The successor `n` is the position, not yet entered; past the last segment the program is DONE (01 R14). -/
def succeeded (n : Nat) (q : Lsq) : Lsq :=
  if n < q.prog.length then { q with state := .running, running := none, pos := ⟨n, 0⟩ }
  else { q with state := .done, running := none }

/-- The sequencer once the STORE claim is placed: a program under way is PAUSED (01 R25, 06 R123). -/
def storePlaced (q : Lsq) : Lsq :=
  if q.claims.store then q
  else
    { q with
      claims := { q.claims with store := true }
      state :=
        match q.state with
        | .aligning => .paused .aligning | .running => .paused .running | .gated => .paused .gated | x => x }

/-- The sequencer once the STORE claim is judged: it stands on only if it `keeps`, and where it was the last claim a
PAUSED program goes on (01 R25, 06 R125). -/
def storeKept (keeps : Bool) (q : Lsq) : Lsq :=
  let c : Claims := { q.claims with store := q.claims.store && keeps }
  { q with
    claims := c
    state :=
      match q.state with
      | .paused r =>
          if q.claims.store && !keeps && !c.director && !c.panel && !c.protection then
            (match r with | .aligning => .aligning | .running => .running | .gated => .gated)
          else .paused r
      | x => x }

/-- An open window takes a period's values: an actuator's peak is replaced by a higher force, its valley by a lower one,
and the first period gives both (03 R57). -/
def followed (s : State) (w : Window) : Window :=
  { w with
    acts := w.acts.map fun q =>
      let now : Extreme := { force := (s.act q.act).force, disp := (s.act q.act).disp }
      { q with
        peak := some (match q.peak with | some p => if p.force < now.force then now else p | none => now)
        valley := some (match q.valley with | some v => if now.force < v.force then now else v | none => now) } }

/-- The trigger of an entry that becomes current (05 R96, R101, R103). -/
def progress (s : State) (e : PlanEntry) : Trigger :=
  match e.trigger with
  | .immediate => .untriggered
  | .onHold => if holdInForce s then .segment false 0 else .untriggered
  | .onGate => if gateInForce s then .segment true 0 else .untriggered
  | .everyCycles => .target ((s.cau.total / e.interval + 1) * e.interval) s.cau.total false

/-- The entry, once current, begins no collection at once (05 R96, R101). -/
abbrev Waits (s : State) (e : PlanEntry) : Prop :=
  e.trigger ≠ .immediate ∧ (e.settle = 0 → e.trigger = .everyCycles ∨ progress s e = .untriggered)

/-- A new set, with the next number, opens (05 R95, R98). -/
def setOpened (v : Sve) : Sve :=
  { v with setCounter := if v.setCounter = 65535 then 1 else v.setCounter + 1
           openSet := some { first := none, lastDone := none } }

/-- Entry `i`, which is `e`, is current and waits (05 R96). -/
def madeCurrent (s : State) (i : Fin 64) (e : PlanEntry) (v : Sve) : Sve :=
  { v with current := some i, heldReason := none, state := .waiting, trigger := progress s e, collector := none,
           stalledRec := none }

/-- The engine moves on to index `n`, where an entry waits, or finds the chain broken (05 R98). -/
def movedOn (s : State) (n : Fin 64) (v : Sve) : Sve :=
  match v.plan.get n with
  | none => { v with state := .held, heldReason := some .chainBroken, trigger := .untriggered }
  | some e => madeCurrent s n e (if v.openSet.isSome then v else setOpened v)

/-- Why the completion of entry `i`, which is `e`, stops the engine, if it does (05 R98). -/
def endsWith (v : Sve) (i : Fin 64) (e : PlanEntry) : Option HeldReason :=
  if v.modeLast then (if i = v.lastIndex then some .endLast else none)
  else if e.holdMark then some .endMark
  else none

/-- An entry that the engine moves on to from entry `i`, which is `e`, waits (05 R98). -/
abbrev GoesOnQuietly (s : State) (i : Fin 64) (e : PlanEntry) : Prop :=
  endsWith s.sve i e = none → ∀ n, s.entry e.next = some n → Waits s n

/-- The current entry `i`, which is `e`, completes other than by abort: it carries its result and the open set's number
and joins the set; its set-end mark closes the set, whose first entry takes set-last; and the engine stops or moves on
(05 R97 to R99). -/
def entryCompleted (s : State) (i : Fin 64) (e : PlanEntry) (res : EntryResult) (v : Sve) : Sve :=
  let joined : Option OpenSet := v.openSet.map fun o => { first := some (o.first.getD i), lastDone := some i }
  let plan := v.plan.set i
    (some { e with complete := true, result := some res, setNo := some v.setCounter, setLast := none })
  let closed : Table 64 (Option PlanEntry) :=
    match joined.bind (fun o => o.first) with
    | some f => plan.set f ((plan.get f).map fun x => { x with setLast := some i })
    | none => plan
  let v : Sve :=
    { v with
      plan := if e.setEnd then closed else plan, openSet := if e.setEnd then none else joined
      collector := none, stalledRec := none }
  match endsWith v i e with
  | some why => { v with state := .held, heldReason := some why, trigger := .untriggered }
  | none => movedOn s e.next v

/-- The cause table of `t` is that of `s` but that the subjects `ended` are active no longer (08 R150). -/
abbrev CausesEnd (ended : CauseKind → Nat → Prop) (s t : State) : Prop :=
  ∀ k : CauseKind,
    t.cause k = { s.cause k with active := (t.cause k).active }
    ∧ ∀ x, x ∈ (t.cause k).active ↔ x ∈ (s.cause k).active ∧ ¬ ended k x

/-- Gauge `g` leaves the input it reads in `s`, and module `m` is out of use in `t` (04 R72, R74). -/
abbrev LeavesModule (g : Fin 256) (m : Fin 16) (s t : State) : Prop :=
  (∃ i, (s.gauge g).mapping = some (m, i)) ∧ ∀ h i, (t.gauge h).mapping ≠ some (m, i)

/-- What the end of a gauge's deviation, where `drops`, and its leaving an input do to the cause table (04 R74, R77,
R78): a DEVIATION that holds ends, and so does the silence of a module that goes out of use. -/
abbrev GaugeEnds (g : Fin 256) (drops : Prop) (s t : State) : Prop :=
  CausesEnd
    (fun k x =>
      (k = .deviation ∧ x = g.val ∧ drops ∧ (s.gauge g).devHolds = true)
      ∨ (k = .frontendSilent ∧ ∃ m : Fin 16, x = m.val ∧ LeavesModule g m s t ∧ (s.module m).silent = true)) s t

/-- The modules after gauge `g` was mapped or unmapped: one that goes out of use is silent no longer (04 R74). -/
abbrev ModulesLeft (g : Fin 256) (s t : State) : Prop :=
  ∀ m : Fin 16,
    (LeavesModule g m s t → t.module m = { s.module m with silent := false })
    ∧ (¬ LeavesModule g m s t → t.module m = s.module m)

/-- A reset of the part, or a command that may be one or may carry a whole request in its last character. -/
def mayReset : Instr → Bool
  | .powerOn _ _ | .resetPin | .resetAfterOk | .frameSent _ => true
  | _ => false

/-- The request that a received character may complete is any. -/
def mayCarryRequest : Instr → Bool
  | .characterReceived _ _ => true
  | _ => false

/-! ### Invariants -/

/-- The hydraulics (02 R30, R39, R40, R46 to R49): the isolation output follows the servo; with the servo off nothing
is driven; an ENABLED actuator under servo has a setpoint in its window; valve and integral keep to their limits; an
UNUSED actuator is not driven; unload values exist only while unloading. -/
abbrev ActuatorSafe (p : PState) (a : Actuator) : Prop :=
  a.cfg.fmin ≤ a.cfg.fmax ∧ a.valve.natAbs ≤ 32000 ∧ a.integral.natAbs ≤ 131072000
  ∧ a.force.natAbs ≤ 1000000 ∧ a.disp.natAbs ≤ 500000 ∧ a.missing ≤ 255
  ∧ (a.setpoint.all (fun v => decide (a.cfg.fmin ≤ v ∧ v ≤ a.cfg.fmax))) = true
  ∧ a.setpoint.isSome = (p.servo && a.cfg.enabled)
  ∧ ((p.servo && a.cfg.enabled) = false → a.valve = 0 ∧ a.integral = 0)
  ∧ a.unload.isSome = (decide (p = .unloading) && a.cfg.enabled)

abbrev HydraulicsSafe (s : State) : Prop :=
  s.asa.isolation = s.pru.state.servo ∧ ∀ a ∈ s.asa.acts.cells, ActuatorSafe s.pru.state a

/-- The sequencer under supervision (01 R24 to R26, 08 R156 to R161): it is PAUSED only under a claim and runs only
without one; the PROTECTION claim stands exactly in HOLDING; it unloads exactly with PRU; outside ARMED, HOLDING and
UNLOADING it rests. -/
abbrev Supervised (s : State) : Prop :=
  (isPaused s = true → s.lsq.claims.any = true)
  ∧ (s.lsq.claims.any = true → s.lsq.state ≠ .aligning ∧ s.lsq.state ≠ .running ∧ s.lsq.state ≠ .gated)
  ∧ (s.lsq.claims.protection = true ↔ s.pru.state = .holding)
  ∧ (s.lsq.state = .unloading ↔ s.pru.state = .unloading)
  ∧ (s.pru.state = .safe ∨ s.pru.state = .unloaded ∨ s.pru.state = .dumped → seqResting s = true)

/-- PRU is never behind the demanded level (08 R154, R157). -/
abbrev DemandMet (s : State) : Prop := moveFor s.pru.state (demandedLevel s) = none

/-- Record numbers follow one another (06 R120). -/
def consecutive : List Record → Bool
  | [] => true
  | [_] => true
  | a :: b :: rest => (b.number == nextRecordNo a.number) && consecutive (b :: rest)

/-- A demand survey's record is kept stalled (05 R114). -/
def demandStalled (v : Sve) : Bool :=
  match v.work with
  | .stalled _ => true
  | _ => false

/-- The stall list names exactly the collectors that hold a stalled record, each once (06 R123), and each of those has
its entry or its request (05 R109, R114). -/
abbrev StallsNamed (s : State) : Prop :=
  s.cst.stalls.Nodup
  ∧ (Collector.plan ∈ s.cst.stalls ↔ s.sve.state = .stalled)
  ∧ (Collector.demand ∈ s.cst.stalls ↔ demandStalled s.sve = true)
  ∧ (s.sve.state = .stalled → s.sve.current.isSome = true ∧ s.sve.stalledRec.isSome = true)
  ∧ (s.sve.demand = [] → demandStalled s.sve = false)

/-- The store (06 R119, R120, R123, R125, R126, R131). -/
abbrev StoreSound (s : State) : Prop :=
  fill s ≤ 256 ∧ otherCount s ≤ 252
  ∧ consecutive s.cst.records = true
  ∧ (∀ n ∈ newestNo s, s.cst.nextNo = nextRecordNo n)
  ∧ (1 ≤ s.cst.nextNo ∧ s.cst.nextNo ≤ max32)
  ∧ (2 ≤ s.cst.high ∧ s.cst.high ≤ 252 ∧ s.cst.low < s.cst.high)
  ∧ (fill s ≤ s.cst.low → s.cst.armed = true)
  ∧ (s.cst.high ≤ fill s → s.cst.armed = false)
  ∧ (s.cst.stalls ≠ [] → s.lsq.claims.store = true)
  ∧ (s.lsq.claims.store = true → s.cst.stalls ≠ [] ∨ s.cst.low < fill s)
  ∧ StallsNamed s

def slotReady : Slot → Bool
  | .ready _ => true
  | _ => false

/-- One link (10 R176, R179, R180, R184, R187, R192). -/
abbrev LinkSound (k : LinkSt) : Prop :=
  k.readyOrder.Nodup ∧ (∀ i : Fin 2, i ∈ k.readyOrder ↔ slotReady (k.slots.get i) = true) ∧
  k.replies.length ≤ 4 ∧ ordinaryNotices k.notices ≤ 14 ∧ k.notices.countP Notice.isAlarm ≤ 1
  ∧ k.notices.countP Notice.isState ≤ 1 ∧ LinkSettled k
  ∧ k.gap ≤ 65535 ∧ k.check ≤ 65535 ∧ k.length ≤ 65535 ∧ k.queue ≤ 65535

abbrev LinksSound (s : State) : Prop :=
  LinkSound s.lki.director ∧ LinkSound s.lki.panel ∧ 1 ≤ s.lki.timeout ∧ s.lki.timeout ≤ 3600

/-- A cause record (08 R148, R149): what is active is latched, and the stamp stands exactly while it is latched. -/
abbrev CauseSound (c : Cause) : Prop := (∀ x ∈ c.active, x ∈ c.latched) ∧ (c.stamp.isSome = c.isLatched)

/-- The cause table (08 R148, R149): every level is one its kind allows, and only a kind that allows it is masked. -/
abbrev CausesSound (s : State) : Prop :=
  ∀ k ∈ allCauses,
    CauseSound (s.cause k) ∧ ((s.cause k).masked = true → maskable k = true)
    ∧ (if k = .crackLoop then (s.cause k).level = none
       else (s.cause k).level.any (allowedLevel k) = true)

/-- A subject is active exactly while its condition holds (08 R148, R150; 02 R52, 04 R74, R87, 07 R137, R138, R142,
R143). -/
abbrev ConditionsShown (s : State) : Prop :=
  (0 ∈ (s.cause .estop).active ↔ s.pins.estop = true)
  ∧ (∀ i : Fin 8, i.val ∈ (s.cause .sensor).active ↔ (s.act i).sensor = true)
  ∧ (∀ i : Fin 8, i.val ∈ (s.cause .overload).active ↔ (s.act i).overload = true)
  ∧ (∀ i : Fin 8, i.val ∈ (s.cause .limit).active ↔ (s.act i).limit = true)
  ∧ (∀ f : Fin 4, f.val ∈ (s.cause .twist).active ↔ (s.frame f).twist = true)
  ∧ (s.cause .tracking).active = [] ∧ (s.cause .stiffness).active = []
  ∧ (∀ i : Fin 32, i.val ∈ (s.cause .crackLoop).active ↔ (s.loop i).broken = true)
  ∧ (∀ i : Fin 8, i.val ∈ (s.cause .aeAlarm).active ↔ (s.chan i).aeAlarm = true)
  ∧ (∀ g : Fin 256, g.val ∈ (s.cause .deviation).active ↔ (s.gauge g).devHolds = true)
  ∧ (∀ m : Fin 16, m.val ∈ (s.cause .frontendSilent).active ↔ (s.module m).silent = true)
  ∧ (24 ∈ (s.cause .frontendSilent).active ↔ s.ckm.feSilent = true)
  ∧ (∀ i : Fin 8, 16 + i.val ∈ (s.cause .frontendSilent).active ↔ (s.chan i).silent = true)

/-- An acoustic-emission channel (07 R139, R141, R142). -/
abbrev ChannelSound (c : Channel) : Prop :=
  c.ring.length = c.window ∧ 1 ≤ c.window ∧ c.window ≤ 64 ∧ c.sum = c.ring.sum ∧ 1 ≤ c.warn ∧ c.warn ≤ c.alarm
  ∧ c.alarm ≤ 4194240 ∧ c.aeAlarm = (c.used && decide (c.alarm ≤ c.sum)) ∧ (c.silent = true → c.used = true)

/-- The crack monitor (07 R145): with the caution flag off no USED channel stands at its warning threshold. -/
abbrev CrackSound (s : State) : Prop :=
  (∀ c ∈ s.ckm.chans.cells, ChannelSound c)
  ∧ (s.ckm.caution = false → channelsAbove s = []) ∧ (s.ckm.caution = true → s.ckm.cautionAt.isSome = true)

/-- A gauge that is not mapped has no reference and no latest value; a deviation holds only under a check in force
(04 R76, R78, R86). -/
abbrev GaugeSound (g : Gauge) : Prop :=
  (g.mapping = none → g.ref = .none ∧ g.validity = .noneYet) ∧ (g.devHolds = true → g.checked = true)

/-- The gauge map (04 R77): no input has two gauges. -/
abbrev GaugesSound (s : State) : Prop :=
  (∀ g h : Fin 256, (s.gauge g).mapping = (s.gauge h).mapping → (s.gauge g).mapping ≠ none → g = h)
  ∧ ∀ g ∈ s.ssu.gauges.cells, GaugeSound g

/-- No group lists a gauge twice, and neither does a collection, which takes its group's list (04 R82, 05 R104). -/
abbrev GroupsSound (s : State) : Prop :=
  (∀ l ∈ s.ssu.groups.cells, l.Nodup)
  ∧ (s.sve.collector.all fun c => decide (c.gauges.map (fun x => x.gauge)).Nodup) = true

/-- The cycle counters, and the window's qualifying actuators, each of which it holds once (03 R56, R61). -/
abbrev CountersSound (s : State) : Prop :=
  s.cau.achieved + s.cau.outTol + s.cau.notJudged = s.cau.total ∧ s.cau.total ≤ max32 ∧ s.cau.lost ≤ max32
  ∧ s.cau.trackRun ≤ 255
  ∧ (s.cau.window.all fun w => decide (w.acts.map (fun q => q.act)).Nodup) = true

end Sys2Proof.Safety
end

