-- ==== Sys2Proof/Certificates/Slice0/Obligations.lean ====
section
/-! DEFINITION. The statements for the provers.  Each names the rules of the manual it formalises; where a clause rests on
a choice of the model, the docstring names its log entry. -/

open Sys2Proof Sys2Proof.Machine Sys2Proof.Safety

/-! ### The queue of commands and the links (10) -/

/-- A step takes the command at the front of the queue and runs it with the queue's rest; with none waiting it changes
nothing (the model's queue, log 2). -/
def Obligations.StepTakesTheFrontCommand : Prop :=
  (∀ (c : Instr) (rest : List Instr) (s : State),
    step { s with pending := c :: rest } = exec c { s with pending := rest })
  ∧ ∀ s : State, step { s with pending := [] } = .next { s with pending := [] }

/-- No command touches the queue, which is the model's one queue (log 2) and outlasts a reset (log 29); only the
emergency-stop line's changes and power-on move the pins, a reset leaving them as they stand (log 29); and a state that
holds no endless chain of surveys is followed by none that does (log 5). -/
def Obligations.CommandsKeepTheQueueAndThePins : Prop :=
  ∀ (c : Instr) (s t : State), exec c s = .next t →
    t.pending = s.pending
    ∧ (t.pins = s.pins ∨ c = .estopAsserted ∨ c = .estopClear ∨ ∃ line straps, c = .powerOn line straps)
    ∧ (s.sve.endless = false → t.sve.endless = false)

/-- R7, R28, R35, R70, R89, R117, R127, R130, R147, R167, R175, R194: a reading request changes nothing and gets one
reply: OK where what it asks for exists, with the items its rule lists in that rule's order (`readsAs`; READ STORE's in
`ReadStoreReturnsTheOldestRecordsWhole`), and BAD_FIELD alone where it does not.  Bytes that no rule lays out follow
log 13, the presence of CYCLE progress log 18, the figures of a gauge that is not VALID log 37, the unload group of an
UNUSED actuator log 42, the trigger progress of an IMMEDIATE entry and of a RANGE collection log 43, and the coding of
the position's mark in SEQUENCER STATUS log 49. -/
def Obligations.ReadingRequestsOnlyReply : Prop :=
  ∀ (c : Instr) (l : Link) (tag : Byte) (r : Request) (s : State),
    c.request = some (l, tag, r) → readsOnly r = true → Accepts l s →
    (readsExisting s r = true →
      ∃ content, content ≠ [] ∧ readsAs l s content r
        ∧ exec c s = .next (replied l (kindByte r) tag .ok content s))
    ∧ (readsExisting s r = false → exec c s = .next (replied l (kindByte r) tag .badField [] s))

/-- R173, R175, R186, R193, R195: what the requests of the Time Base and the Link Interface set, and their replies.
The items of a reply stand in the order their rule lists them (log 13); a class bit that names no class is ignored
(R196). -/
def Obligations.LinkAndTimeRequestsSetAndReply : Prop :=
  ∀ (l : Link) (tag : Byte) (s : State), Accepts l s →
    let runs := decide (s.lsq.state = .running ∨ s.lsq.state = .gated)
    exec (.readTime l tag) s
        = .next (replied l 0x05#8 tag .ok
            (u32 s.tmb.hall ++ u16 s.tmb.q ++ u32 s.tmb.loadValue ++ u16 s.tmb.loadPhase ++ flag runs) s)
    ∧ (∀ classes, exec (.subscribe l tag classes) s
        = .next (replied l 0x02#8 tag .ok [BitVec.ofNat 8 (classes % 128)]
            (s.updLink l fun k => { k with subs := BitVec.ofNat 7 classes })))
    ∧ (l = .director →
        (∀ seconds, exec (.setReplyTimeout l tag seconds) s
          = .next (replied l 0x03#8 tag (okOr (decide (seconds < 1 ∨ 3600 < seconds)))
              (u16 (clampNat 1 3600 seconds)) (s.updLki fun k => { k with timeout := clampNat 1 3600 seconds })))
        ∧ exec (.partReset l tag) s
          = .next (replied l 0x04#8 tag .ok [] (s.updLki fun k => { k with resetPending := true }))
        ∧ exec (.resetLoadClock l tag) s
          = .next (replied l 0x06#8 tag .ok (u32 s.tmb.loadValue ++ u16 s.tmb.loadPhase ++ flag runs)
              (s.updTmb fun t => { t with loadValue := 0, loadPhase := 0 })))

/-- R179, R180, R183, R195: a request that comes while a part reset waits is dropped uncounted; one that finds four
replies waiting is dropped and counted QUEUE; one the Panel may not send is refused DENIED.  Nothing else changes.  That
DENIED stands alone in the reply to ARM, RESUME ALARM and CLEAR CAUTION too is log 47. -/
def Obligations.RequestsTurnedAwayChangeNothingElse : Prop :=
  ∀ (c : Instr) (l : Link) (tag : Byte) (r : Request) (s : State),
    c.request = some (l, tag, r) → s.sve.endless = false → (s.link l).queue ≤ 65535 →
    (s.lki.resetPending = true → exec c s = .next (service s))
    ∧ (s.lki.resetPending = false → 4 ≤ (s.link l).replies.length →
        exec c s = .next (service (s.updLink l fun k => { k with queue := min 65535 (k.queue + 1) })))
    ∧ (Accepts l s → l = .panel → panelRequest r = false →
        exec c s = .next (replied l (kindByte r) tag .denied [] s))

/-- The values the manual gives for a part reset (R2, R9, R30, R31, R34, R48, R51, R55, R72, R76, R82, R90 to R92, R118,
R132, R134, R139, R144, R147 to R149, R152, R156, R169, R170, R172, R176, R195), with the emergency-stop line CLEAR and
with it ASSERTED, at every setting of the straps.  That the line stands CLEAR in `State.reset` is the model's choice
(log 1). -/
def Obligations.ResetStateHoldsTheManualsValues : Prop :=
  let s := State.reset
  (s.lsq.prog = [] ∧ s.lsq.state = .idle ∧ s.lsq.pos = ⟨0, 0⟩ ∧ s.lsq.running = none ∧ s.lsq.restart = none
    ∧ s.lsq.claims.any = false ∧ s.lsq.consentPanel = false ∧ s.lsq.consentDirector = false ∧ s.lsq.pFine = 0)
  ∧ (∀ i : Fin 8, (s.act i).cfg.enabled = false ∧ (s.act i).valve = 0 ∧ (s.act i).integral = 0
      ∧ (s.act i).setpoint = none ∧ (s.act i).offset = 0 ∧ (s.act i).missing = 0 ∧ (s.act i).cfg.trip = 1000000
      ∧ (s.act i).cfg =
          { enabled := false, frame := 0, share := 0, fmin := -1000000, fmax := 1000000, trip := 1000000,
            dmin := -500000, dmax := 500000, kp := 0, ki := 0, inverted := false, rest := 0, unloadRate := 1000,
            peakTol := 1000 }
      ∧ (s.act i).force = 0 ∧ (s.act i).disp = 0 ∧ (s.act i).unload = none ∧ (s.act i).overload = false
      ∧ (s.act i).limit = false)
  ∧ (∀ f : Fin 4, (s.frame f).limit = 0 ∧ (s.frame f).confirm = 16 ∧ (s.frame f).count = 0
      ∧ (s.frame f).twist = false)
  ∧ (s.asa.alignRate = 1000 ∧ s.asa.isolation = false ∧ s.asa.pm = 0)
  ∧ (s.cau.total = 0 ∧ s.cau.achieved = 0 ∧ s.cau.outTol = 0 ∧ s.cau.notJudged = 0 ∧ s.cau.lost = 0
    ∧ s.cau.window = none ∧ (∀ i : Fin 8, s.cau.refs.get i = .none)
    ∧ s.cau.trackRun = 0 ∧ (∀ i : Fin 8, s.cau.dropRuns.get i = 0) ∧ s.cau.last = none
    ∧ s.cau.cfg =
        { tracking := 3, stroke := 100, capture := 16, drop := 100, dropRun := 3, decimation := 0,
          exceptions := false })
  ∧ (∀ g : Fin 256, (s.gauge g).mapping = none ∧ (s.gauge g).zero = 0 ∧ (s.gauge g).validity = .noneYet
      ∧ (s.gauge g).ref = .none
      ∧ (s.gauge g).bridge = 4 ∧ (s.gauge g).gfm = 2000 ∧ (s.gauge g).ratio = 0 ∧ (s.gauge g).strain = 0
      ∧ (s.gauge g).at_ = 0 ∧ (s.gauge g).watch = false ∧ (s.gauge g).band = 1000 ∧ (s.gauge g).confirm = 3
      ∧ (s.gauge g).devRun = 0 ∧ (s.gauge g).devHolds = false ∧ (s.gauge g).lastDev = none
      ∧ (s.gauge g).devFlag = false)
  ∧ (∀ m : Fin 16, (s.module m).last = 0 ∧ (s.module m).silent = false ∧ moduleInUse s m = false)
  ∧ (∀ g : Fin 32, s.ssu.groups.get g = [])
  ∧ (s.sve.state = .off ∧ s.sve.current = none ∧ s.sve.heldReason = none ∧ s.sve.setCounter = 0
    ∧ s.sve.openSet = none ∧ s.sve.modeLast = false ∧ s.sve.lastIndex = 0 ∧ s.sve.zeroWindow = 500
    ∧ s.sve.minSpan = 10000 ∧ s.sve.collector = none ∧ s.sve.stalledRec = none ∧ s.sve.demand = []
    ∧ s.sve.work = .idle ∧ ∀ i : Fin 64, s.entry i = none)
  ∧ (s.cst.records = [] ∧ s.cst.nextNo = 1 ∧ s.cst.high = 192 ∧ s.cst.low = 64 ∧ s.cst.armed = true
    ∧ s.cst.stalls = [])
  ∧ (∀ i : Fin 32, s.loop i =
      { used := false, broken := false, debounce := 4, level := .hold, count := 0, last := none })
  ∧ (∀ c : Fin 8, s.chan c =
      { used := false, window := 16, warn := 2000, alarm := 8000, ring := List.replicate 16 0, sum := 0,
        silent := false, last := 0, aeAlarm := false })
  ∧ (s.ckm.caution = false ∧ s.ckm.cautionAt = none ∧ s.ckm.feSilent = false ∧ s.ckm.feLast = 0
    ∧ frontendInUse s = false)
  ∧ (s.pru.state = .safe ∧ s.pru.entered = 0 ∧ ∀ k : CauseKind, (s.cause k).latched = [] ∧ (s.cause k).active = []
      ∧ (s.cause k).masked = false ∧ (s.cause k).stamp = none
      ∧ (s.cause k).level =
          (match k with
           | .estop | .sensor | .overload => some .dump
           | .limit | .twist => some .unload
           | .tracking | .stiffness | .aeAlarm | .deviation => some .hold
           | .crackLoop => none
           | .frontendSilent => some .notify))
  ∧ (s.tmb.q = 0 ∧ s.tmb.hall = 0 ∧ s.tmb.loadValue = 0 ∧ s.tmb.loadPhase = 0 ∧ clockRuns s = false)
  ∧ (s.lki.director.subs = 0x7F#7 ∧ s.lki.panel.subs = 0x07#7 ∧ s.lki.timeout = 120 ∧ s.lki.resetPending = false)
  ∧ (∀ l : Link,
      let k := s.link l
      k.rx = .hunting ∧ k.replies = [] ∧ k.notices = [] ∧ (∀ i : Fin 2, k.slots.get i = .free) ∧ k.readyOrder = []
      ∧ k.lost = false ∧ k.gap = 0 ∧ k.check = 0 ∧ k.length = 0 ∧ k.queue = 0 ∧ k.tx = none)
  ∧ ∀ straps : Straps,
      let read (line : Bool) := State.resetWith { estop := line, straps := straps } []
      let rate : Straps := match straps with
        | .r115200 => .r115200 | .r460800 => .r460800 | .r921600 => .r921600 | .unnamed => .r115200
      let u := read true
      read false = { s with pins := { estop := false, straps := straps }, lki := { s.lki with rate := rate } }
      ∧ u = { s with
              pins := { estop := true, straps := straps }, lki := { s.lki with rate := rate }
              pru := { s.pru with causes := u.pru.causes } }
      ∧ ∀ k : CauseKind, u.cause k =
          if k = .estop then { s.cause k with latched := [0], active := [0], stamp := some 0 } else s.cause k

/-- R195: power-on, the reset pin and the end of the OK to a PART RESET leave the part as a part reset leaves it, with
the pins as they stand; commands not yet taken stay in the queue (the model's, log 29).  That the OK is known by its
kind 0x84 and its status alone is log 27, and that RESET_AFTER_OK and FRAME_SENT are both the end of that frame log 3.
-/
def Obligations.ResetEventsResetThePart : Prop :=
  ∀ s : State,
    (∀ line straps,
      exec (.powerOn line straps) s = .next (State.resetWith { estop := line, straps := straps } s.pending))
    ∧ exec .resetPin s = .next (State.resetWith s.pins s.pending)
    ∧ ∀ f, s.lki.director.tx = some f → f.kind = 0x84#8 → f.payload = [0#8] →
        exec .resetAfterOk s = .next (State.resetWith s.pins s.pending)
        ∧ exec (.frameSent .director) s = .next (State.resetWith s.pins s.pending)

/-- R184, R185, R187 to R190, R192.  A notice that is raised joins the queue of each link that subscribes its class: of
GATE, SURVEY, PLAN, STORE and CAUTION the fifteenth is lost and sets the flag, an ALARM is merged into the one waiting,
a STATE replaces the one waiting.  HOLD raises such a notice.  When a frame is finished the transmitter begins the
oldest reply, else the oldest notice, which takes the lost-notice flag with it, else it becomes IDLE; the place that a
reply leaves goes to the deferred reply that became READY first.  That the transmitter acts at the end of the event is
the model's reading (log 7). -/
def Obligations.NoticesWaitAndFramesGoOut : Prop :=
  (∀ (b : NoticeBody) (l : Link) (s : State),
    let k := s.link l
    let u := (raise b s).link l
    let n : Notice := { body := b, stamp := s.tmb.hall, merge := 1 }
    raise b s = { s with lki := { s.lki with director := (raise b s).lki.director, panel := (raise b s).lki.panel } }
    ∧ (k.subs.getLsbD b.cls.code = false → u = k)
    ∧ (k.subs.getLsbD b.cls.code = true →
        (b.cls ≠ .alarm → b.cls ≠ .state →
          u = if ordinaryNotices k.notices < 14 then { k with notices := k.notices ++ [n] } else { k with lost := true })
        ∧ ((b.cls = .alarm ∨ b.cls = .state) → (∀ x ∈ k.notices, x.body.cls ≠ b.cls) →
            u = { k with notices := k.notices ++ [n] })
        ∧ ∀ (before after : List Notice) (old : Notice),
            k.notices = before ++ old :: after → (∀ x ∈ before, x.body.cls ≠ b.cls) →
            let becomes (m : Notice) : Prop := u = { k with notices := before ++ m :: after }
            (old.body.cls = .state → b.cls = .state → becomes { n with merge := min 255 (old.merge + 1) })
            ∧ ∀ o a, old.body = .alarm o → b = .alarm a →
                ∃ m : AlarmBody,
                  becomes { body := .alarm m, stamp := s.tmb.hall, merge := min 255 (old.merge + 1) }
                  ∧ m.after = a.after ∧ m.before = o.before ∧ m.demand = a.demand ∧ m.line = a.line
                  ∧ m.lost = (o.lost || a.lost)
                  ∧ m.firstSnap = (if o.firstSnap.isSome then o.firstSnap else a.firstSnap)
                  ∧ m.lastSnap = (if a.lastSnap.isSome then a.lastSnap else o.lastSnap)
                  ∧ ∀ kind,
                      ((∃ x ∈ m.causes, x.1 = kind) ↔ ∃ x ∈ o.causes ++ a.causes, x.1 = kind)
                      ∧ ∀ subject, (∃ x ∈ m.causes, x.1 = kind ∧ subject ∈ x.2)
                          ↔ ∃ x ∈ o.causes ++ a.causes, x.1 = kind ∧ subject ∈ x.2))
  ∧ (∀ (l : Link) (tag : Byte) (s : State), Accepts l s → s.lsq.state = .running →
      let claims : Claims :=
        match l with
        | .director => { s.lsq.claims with director := true }
        | .panel => { s.lsq.claims with panel := true }
      let u := s.updLsq fun q => { q with claims := claims, state := .paused .running }
      exec (.hold l tag) s
        = .next (replied l 0x16#8 tag .ok
            (u8 (bits [claims.director, claims.panel, claims.store, claims.protection]))
            (raise (.state (.paused .running) s.pru.state s.lsq.pos.index) u)))
  ∧ ∀ (l : Link) (f : FrameOut) (s : State),
    let k := s.link l
    k.tx = some f → (l = .director → sendingResetOk s = false) →
    ∃ t, exec (.frameSent l) s = .next t
      ∧ t = { s with lki := t.lki }
      ∧ (k.readyOrder = [] →
          (∀ r rs, k.replies = r :: rs → t.link l = { k with tx := some r, replies := rs })
          ∧ (∀ n ns, k.replies = [] → k.notices = n :: ns →
              t.link l = { k with tx := some (noticeFrame k.lost n), notices := ns, lost := false })
          ∧ (k.replies = [] → k.notices = [] → t.link l = { k with tx := none }))
      ∧ (∀ r rs i is d, k.replies = r :: rs → rs.length = 3 → k.readyOrder = i :: is → k.slots.get i = .ready d →
          t.link l = { k with tx := some r, replies := rs ++ [d], slots := k.slots.set i .free, readyOrder := is })

/-- R177 to R180: the gap timer's end and a bad character abandon a partial frame and are counted GAP; a length above
1,024 is counted LENGTH; a CRC that differs, CHECK; each leaves the assembler HUNTING.  A frame of no request kind is
answered with kind 0xFF and BAD_KIND; one of a kind the Panel may not send, whatever its length, DENIED; one of a kind
the link may send whose payload has another length than its kind allows, BAD_LENGTH.  That the first of these is
counted in SYNC too is the model's reading (log 35); that OVERSIZE_DISCARD and BAD_CRC_DISCARD are the character that
shows the fault, and BAD_KIND the completion of the frame, is log 3; that such a refusal is its status alone for every
kind is log 47. -/
def Obligations.FramesThatAreNoRequestAreCountedOrAnswered : Prop :=
  ∀ (l : Link) (s : State),
    s.sve.endless = false → (s.link l).gap ≤ 65535 → (s.link l).length ≤ 65535 → (s.link l).check ≤ 65535 →
    ((s.link l).rx = .hunting → exec (.gapTimerExpiry l) s = .next s ∧ exec (.lineBreak l) s = .next s)
    ∧ ((s.link l).rx ≠ .hunting →
        let t := s.updLink l fun k => { k with rx := .hunting, gap := min 65535 (k.gap + 1) }
        exec (.gapTimerExpiry l) s = .next t ∧ exec (.lineBreak l) s = .next t)
    ∧ (∀ a c, (s.link l).rx = .header [a] → 1024 < a.toNat + 256 * c.toNat →
        exec (.oversizeDiscard l c) s
          = .next (service (s.updLink l fun k => { k with rx := .hunting, length := min 65535 (k.length + 1) })))
    ∧ (∀ kind tag p a c, (s.link l).rx = .check kind tag p [a] →
        [a, c] ≠ crcBytes (frameBody { kind := kind, tag := tag, payload := p }) →
        exec (.badCrcDiscard l c) s
          = .next (service (s.updLink l fun k => { k with rx := .hunting, check := min 65535 (k.check + 1) })))
    ∧ (∀ kind tag, (∀ r : Request, kindByte r ≠ kind) → Accepts l s →
        exec (.badKind l kind tag) s
          = .next (service (s.updLink l fun k =>
              { k with replies := k.replies ++ [{ kind := 0xFF#8, tag := tag, payload := [2#8] }] })))
    ∧ ∀ (r : Request) (tag : Byte) (p : List Byte) (a c : Byte), Accepts l s →
        (s.link l).rx = .check (kindByte r) tag p [a] →
        [a, c] = crcBytes (frameBody { kind := kindByte r, tag := tag, payload := p }) →
        let refused (st : Status) : Prop :=
          exec (.characterReceived l c) s
            = .next (replied l (kindByte r) tag st [] (s.updLink l fun k => { k with rx := .hunting }))
        (l = .panel → panelRequest r = false → refused .denied)
        ∧ ((l = .director ∨ panelRequest r = true) → p.length ≠ payloadLength (kindByte r).toNat p →
            refused .badLength)

/-- R177: the receive assembler's table, character by character, up to the last CRC byte. -/
def Obligations.CharactersAreAssembled : Prop :=
  ∀ (l : Link) (c : Byte) (s : State), s.sve.endless = false →
    let becomes (rx : Assembler) : Prop :=
      exec (.characterReceived l c) s = .next (service (s.updLink l fun k => { k with rx := rx }))
    ((s.link l).rx = .hunting → if c = 0xB5#8 then becomes .sync else becomes .hunting)
    ∧ ((s.link l).rx = .sync →
        if c = 0x4C#8 then becomes (.header []) else if c = 0xB5#8 then becomes .sync else becomes .hunting)
    ∧ ((s.link l).rx = .header [] → becomes (.header [c]))
    ∧ (∀ a, (s.link l).rx = .header [a] → a.toNat + 256 * c.toNat ≤ 1024 → becomes (.header [a, c]))
    ∧ (∀ a b, (s.link l).rx = .header [a, b] → becomes (.header [a, b, c]))
    ∧ (∀ a b k, (s.link l).rx = .header [a, b, k] →
        let n := a.toNat + 256 * b.toNat
        if n = 0 then becomes (.check k c [] []) else becomes (.payload n k c []))
    ∧ (∀ n k tag got, (s.link l).rx = .payload n k tag got →
        if n ≤ got.length + 1 then becomes (.check k tag (got ++ [c]) []) else becomes (.payload n k tag (got ++ [c])))
    ∧ (∀ k tag p, (s.link l).rx = .check k tag p [] → becomes (.check k tag p [c]))

/-- R177, R180, R198: the characters of a well-formed request's frame, taken one by one by a HUNTING assembler, have
exactly the outcome of the request's command.  That a request's row is the arrival of its complete frame is log 14. -/
def Obligations.FrameOnTheWireIsItsCommand : Prop :=
  ∀ (c : Instr) (l : Link) (tag : Byte) (r : Request) (s : State),
    c.request = some (l, tag, r) → r.wellFormed = true →
    (s.link l).rx = .hunting → LinksSettled s → s.sve.endless = false → s.pending = [] →
    let bytes := frameBytes { kind := kindByte r, tag := tag, payload := writePayload r }
    Sys2Proof.core.run bytes.length ({ s with pending := bytes.map (fun b => .characterReceived l b) } : State)
      = exec c s

/-- R196, R198, R199: the payload written for a well-formed request has the length its kind allows and reads back as
that request. -/
def Obligations.RequestPayloadReadsBack : Prop :=
  ∀ r : Request, r.wellFormed = true →
    (writePayload r).length = payloadLength (kindByte r).toNat (writePayload r)
    ∧ (writePayload r).length ≤ 1024
    ∧ readRequest (kindByte r).toNat (writePayload r) = some r

/-- R192: the servo period at which hall time reaches the deadline of a WAITING slot forms the reply TIMED_OUT, which
waits READY, or has joined the reply queue, or is being sent.  The row is that period (log 3); what the freed slot's
reply does next is log 36. -/
def Obligations.ReplyTimeoutAnswersTimedOut : Prop :=
  ∀ (l : Link) (i : Fin 2) (kind tag : Byte) (clamped : Bool) (d : Nat) (s : State),
    PlanQuiet s → (s.link l).slots.get i = .waiting kind tag clamped d → bringsReplyTimeout l i s = true →
    ∃ t, exec (.replyTimeout l i) s = .next t
      ∧ let f : FrameOut := { kind := kind + 0x80#8, tag := tag, payload := [14#8] }
        ((t.link l).slots.get i = .ready f
          ∨ ((t.link l).slots.get i = .free ∧ (f ∈ (t.link l).replies ∨ (t.link l).tx = some f)))

/-! ### Time (09) -/

/-- R169, R170, R172: a servo period moves the phase; hall time advances at the first period of a hundredth; the
load-on clock counts while the sequencer is RUNNING or GATED as the period begins.  The rows for the two advances are
that period (log 3). -/
def Obligations.ServoPeriodMovesTheClocks : Prop :=
  ∀ s : State, PlanQuiet s →
    let q := (s.tmb.q + 1) % 1024
    let p := (s.tmb.loadPhase + 1) % 1024
    let first (q : Nat) : Bool := decide (q * 100 % 1024 < 100)
    let runs := decide (s.lsq.state = .running ∨ s.lsq.state = .gated)
    let moved : Tmb :=
      { q := q, hall := if first q then (s.tmb.hall + 1) % 4294967296 else s.tmb.hall,
        loadPhase := if runs then p else s.tmb.loadPhase,
        loadValue := if runs && first p then (s.tmb.loadValue + 1) % 4294967296 else s.tmb.loadValue }
    (∃ t, exec .servoPeriodExpiry s = .next t ∧ t.tmb = moved)
    ∧ (first q = true → ∃ t, exec .hallTimeAdvance s = .next t ∧ t.tmb = moved)
    ∧ (runs = true → first p = true → ∃ t, exec .loadClockAdvance s = .next t ∧ t.tmb = moved)

/-- R170: hall time increases by one, modulo 2³², at the periods that move the phase to ceil(h × 1,024 / 100) for an h
from 0 to 99, and at no other; counted from a part reset it is 100 × s + floor(q × 100 / 1,024) modulo 2³². -/
def Obligations.HallTimeFollowsThePeriods : Prop :=
  (∀ t : Tmb, t.q < 1024 →
    t.advance.q = (t.q + 1) % 1024
    ∧ ((∃ h, h < 100 ∧ t.advance.q = (h * 1024 + 99) / 100) → t.advance.hall = (t.hall + 1) % 4294967296)
    ∧ ((∀ h, h < 100 → t.advance.q ≠ (h * 1024 + 99) / 100) → t.advance.hall = t.hall))
  ∧ ∀ n : Nat,
    let t := Nat.iterate Tmb.advance n State.reset.tmb
    t.q = n % 1024 ∧ t.hall = (100 * (n / 1024) + n % 1024 * 100 / 1024) % 4294967296

/-! ### The servo array (02) -/

/-- R36: each valid channel replaces its held values and is marked fresh; nothing else changes. -/
def Obligations.FeedbackIsHeld : Prop :=
  ∀ (channels : List FeedbackIn) (s : State), channels.length = 8 →
    ∃ t, exec (.feedbackArrival channels) s = .next t
      ∧ t = { s with asa := { s.asa with acts := t.asa.acts } }
      ∧ ∀ (i : Fin 8) (f : FeedbackIn), channels[i.val]? = some f →
          (f.valid = true → f.force.natAbs ≤ 1000000 → f.disp.natAbs ≤ 500000 →
            t.act i = { s.act i with force := f.force, disp := f.disp, fresh := true })
          ∧ ((f.valid = false ∨ 1000000 < f.force.natAbs ∨ 500000 < f.disp.natAbs) → t.act i = s.act i)

/-- R39, R40, R46, R47, R49, R51: at every servo period, in every protection state, Pm becomes the sum of the held
forces of the ENABLED actuators with share above 0, times 1,000, over the sum of their shares, and 0 where there are
none.  In SAFE and DUMPED nothing is driven.  With the servo enabled and no protection move in the period, each ENABLED
actuator's setpoint comes from the period's load, the share and the period's offset or, while unloading, from its
unload value, which moves toward the rest force at the unload rate; it is clamped to the window, the loop runs with
anti-windup, and the valve is driven; an UNUSED actuator's valve is 0. -/
def Obligations.ServoPeriodDrivesTheValves : Prop :=
  (∀ s : State, PlanQuiet s →
    let acts := s.asa.acts.cells.filter fun a => a.cfg.enabled && decide (0 < a.cfg.share)
    let shares := (acts.map fun a => a.cfg.share).sum
    ∃ t, exec .servoPeriodExpiry s = .next t
      ∧ t.asa.pm = (if shares = 0 then 0 else roundDiv ((acts.map fun a => a.force).sum * 1000) shares)
      ∧ (s.pru.state = .safe ∨ s.pru.state = .dumped →
          ∀ i : Fin 8, (t.act i).setpoint = none ∧ (t.act i).integral = 0 ∧ (t.act i).valve = 0))
  ∧ ∀ s : State, PlanQuiet s → s.pru.state ≠ .safe → s.pru.state ≠ .dumped →
    ∃ t, exec .servoPeriodExpiry s = .next t
      ∧ (t.pru.state = s.pru.state →
          ∀ i : Fin 8,
            let a := s.act i
            let drives (f : Int) : Prop :=
              let sp := clampInt a.cfg.fmin a.cfg.fmax f
              let e := sp - a.force
              let sum := clampInt (-131072000) 131072000 (a.integral + a.cfg.ki * e)
              let u := roundDiv (a.cfg.kp * e + sum) 4096
              let windup : Bool := decide ((32000 < u ∧ 0 < e) ∨ (u < -32000 ∧ e < 0))
              let out := clampInt (-32000) 32000
                (if windup then roundDiv (a.cfg.kp * e + a.integral) 4096 else u)
              (t.act i).setpoint = some sp
              ∧ (t.act i).integral = (if windup then a.integral else sum)
              ∧ (t.act i).valve = (if a.cfg.inverted then -out else out)
            (a.cfg.enabled = false → (t.act i).valve = 0)
            ∧ (a.cfg.enabled = true → s.pru.state ≠ .unloading →
                drives (roundDiv (t.lsq.pFine * a.cfg.share + (t.act i).offset * 1000) 1024000))
            ∧ (∀ v, a.cfg.enabled = true → s.pru.state = .unloading → s.lsq.state = .unloading → a.unload = some v →
                let rest := a.cfg.rest * 1024
                let w :=
                  if (rest - v).natAbs ≤ a.cfg.unloadRate then rest
                  else if v < rest then v + a.cfg.unloadRate else v - a.cfg.unloadRate
                drives (roundDiv w 1024) ∧ (t.act i).unload = some w ∧ (t.act i).arrived = decide (w = rest)))

/-- R37, R52 to R54, R150: the four conditions at every servo period.  The missing-sample count of an ENABLED actuator
is 0 after a fresh sample and else one greater, to 255, and SENSOR holds from 8 on; OVERLOAD holds while the held force
is beyond the trip force and LIMIT while the held displacement is outside its envelope; a frame's twist count rises
while its errors differ by more than the limit, and TWIST holds from its confirm count on.  A condition that starts is
latched and active, one that ends is active no longer, one that goes on changes nothing.  The period at which the
missing-sample count reaches 8 starts SENSOR, which at its level DUMP leaves nothing armed; the period at which a twist
count reaches its confirm count starts TWIST.  These two rows are that period (log 3); that the twist count then stands
although the period's own reports have entered DUMPED is log 38. -/
def Obligations.SensorAndTwistStartsAreLatched : Prop :=
  ∀ s : State, PlanQuiet s →
    (∃ t, exec .servoPeriodExpiry s = .next t
      ∧ let shown (k : CauseKind) (x : Nat) (before after : Bool) : Prop :=
          (x ∈ (t.cause k).latched ↔ x ∈ (s.cause k).latched ∨ (before = false ∧ after = true))
          ∧ (x ∈ (t.cause k).active ↔ if before = after then x ∈ (s.cause k).active else after = true)
        (∀ i : Fin 8,
          let a := s.act i
          let missing := if a.cfg.enabled then (if a.fresh then 0 else min 255 (a.missing + 1)) else a.missing
          (t.act i).missing = missing
          ∧ (t.act i).overload =
              (if a.cfg.enabled then decide (a.cfg.trip < (a.force.natAbs : Int)) else a.overload)
          ∧ (t.act i).limit =
              (if a.cfg.enabled then decide (a.disp < a.cfg.dmin ∨ a.cfg.dmax < a.disp) else a.limit)
          ∧ shown .sensor i.val (a.cfg.enabled && decide (8 ≤ a.missing)) (a.cfg.enabled && decide (8 ≤ missing))
          ∧ shown .overload i.val a.overload (t.act i).overload
          ∧ shown .limit i.val a.limit (t.act i).limit)
        ∧ ∀ f : Fin 4,
            shown .twist f.val (s.frame f).twist (t.frame f).twist
            ∧ ((t.pru.state = .dumped → s.pru.state = .dumped) →
                let x := s.frame f
                let errors : List Int :=
                  ((allFin 8).filter fun i => (s.act i).cfg.enabled && decide ((s.act i).cfg.frame = f)).map fun i =>
                    (t.act i).setpoint.getD 0 - (s.act i).force
                let n :=
                  if ∃ e ∈ errors, ∃ e' ∈ errors, (x.limit : Int) < e - e' then min 1024 (x.count + 1) else 0
                t.frame f =
                  if s.pru.state ≠ .safe ∧ s.pru.state ≠ .dumped ∧ 0 < x.limit ∧ 2 ≤ errors.length then
                    { x with count := n, twist := decide (x.confirm ≤ n) }
                  else { x with count := 0, twist := false }))
    ∧ (∀ i : Fin 8, bringsSensorStart i s = true →
        ∃ t, exec (.sensorStart i) s = .next t
          ∧ (t.act i).missing = 8 ∧ i.val ∈ (t.cause .sensor).latched ∧ i.val ∈ (t.cause .sensor).active
          ∧ ((s.cause .sensor).level = some .dump → (s.cause .sensor).masked = false →
              t.pru.state = .safe ∨ t.pru.state = .dumped))
    ∧ ∀ f : Fin 4, bringsTwistStart f s = true →
        ∃ t, exec (.twistStart f) s = .next t
          ∧ (t.frame f).twist = true ∧ (s.frame f).confirm ≤ (t.frame f).count
          ∧ f.val ∈ (t.cause .twist).latched ∧ f.val ∈ (t.cause .twist).active

/-- R32 to R34, R44: SET ACTUATOR where its checks pass (use and frame only in SAFE or DUMPED, share and clamps only
while the sequencer rests), with what it does to the actuator's running state, and its refusals; SET FRAME; SET
ALIGNMENT. The content of the replies to SET FRAME and SET ALIGNMENT follows log 13, and that a request which changes
use re-seeds nothing log 16. -/
def Obligations.ArrayRequestsWriteTheirRecords : Prop :=
  ∀ (tag : Byte) (s : State), Accepts .director s →
    (∀ (a : ActuatorArg) (i : Fin 8) (fr : Fin 4) (use inv : Bool),
      a.index = i.val → a.frame = fr.val → a.use = use.toNat → a.polarity = inv.toNat →
      let c : ActCfg :=
        { enabled := use, frame := fr, share := clampNat 0 2000 a.share, fmin := clampInt (-1000000) 1000000 a.fmin,
          fmax := clampInt (-1000000) 1000000 a.fmax, trip := clampInt 1 1000000 a.trip,
          dmin := clampInt (-500000) 500000 a.dmin, dmax := clampInt (-500000) 500000 a.dmax,
          kp := clampNat 0 65535 a.kp, ki := clampNat 0 65535 a.ki, inverted := inv,
          rest := clampInt (-1000000) 1000000 a.rest, unloadRate := clampNat 1 200000 a.unloadRate,
          peakTol := clampNat 0 100000 a.peakTol }
      let clamped := decide
        (c.share ≠ a.share ∨ c.fmin ≠ a.fmin ∨ c.fmax ≠ a.fmax ∨ c.trip ≠ a.trip ∨ c.dmin ≠ a.dmin ∨ c.dmax ≠ a.dmax
          ∨ c.kp ≠ a.kp ∨ c.ki ≠ a.ki ∨ c.rest ≠ a.rest ∨ c.unloadRate ≠ a.unloadRate ∨ c.peakTol ≠ a.peakTol)
      let x := s.act i
      let old := x.cfg
      let useKept := c.enabled = old.enabled ∧ c.frame = old.frame
      let loadKept := c.share = old.share ∧ c.fmin = old.fmin ∧ c.fmax = old.fmax
      let force := roundDiv (s.lsq.pFine * old.share + x.offset * 1000) 1024000
      let y : Actuator :=
        if old.enabled = false ∧ use = true then { x with cfg := c, missing := 0, fresh := false }
        else if old.enabled = true ∧ use = false then
          { x with cfg := c, offset := 0, integral := 0, valve := 0, missing := 0, overload := false, limit := false }
        else
          { x with
            cfg := c
            offset :=
              if use = true ∧ c.share ≠ old.share then force * 1024 - roundDiv (s.lsq.pFine * c.share) 1000 else x.offset
            setpoint :=
              if c.fmin ≠ old.fmin ∨ c.fmax ≠ old.fmax then x.setpoint.map (clampInt c.fmin c.fmax) else x.setpoint }
      let ended (k : CauseKind) (n : Nat) : Prop :=
        n = i.val ∧ old.enabled = true ∧ use = false
        ∧ ((k = .sensor ∧ 8 ≤ x.missing) ∨ (k = .overload ∧ x.overload = true) ∨ (k = .limit ∧ x.limit = true))
      (c.fmin ≤ c.fmax → c.dmin ≤ c.dmax →
        ((useKept ∨ s.pru.state = .safe ∨ s.pru.state = .dumped) → (loadKept ∨ seqResting s = true) →
          ∃ t, exec (.setActuator .director tag a) s
                = .next (replied .director 0x20#8 tag (okOr clamped) (encActuator i c) t)
            ∧ t.act i = y ∧ (∀ j, j ≠ i → t.act j = s.act j) ∧ CausesEnd ended s t
            ∧ t = { s with asa := { s.asa with acts := t.asa.acts }, pru := { s.pru with causes := t.pru.causes } })
        ∧ ((¬ useKept ∧ s.pru.state ≠ .safe ∧ s.pru.state ≠ .dumped) ∨ (¬ loadKept ∧ seqResting s = false) →
            exec (.setActuator .director tag a) s = .next (replied .director 0x20#8 tag .wrongState [] s)))
      ∧ (c.fmax < c.fmin ∨ c.dmax < c.dmin →
          exec (.setActuator .director tag a) s = .next (replied .director 0x20#8 tag .badField [] s)))
    ∧ (∀ a : ActuatorArg, (8 ≤ a.index ∨ 4 ≤ a.frame ∨ 2 ≤ a.use ∨ 2 ≤ a.polarity) →
        exec (.setActuator .director tag a) s = .next (replied .director 0x20#8 tag .badField [] s))
    ∧ (∀ (i : Fin 4) (limit confirm : Nat),
        let f : Frame :=
          { s.frame i with limit := clampNat 0 2000000 limit, confirm := clampNat 1 1024 confirm,
                           count := if limit = 0 then 0 else (s.frame i).count }
        exec (.setFrame .director tag i.val limit confirm) s
          = .next (replied .director 0x21#8 tag (okOr (decide (2000000 < limit ∨ confirm < 1 ∨ 1024 < confirm)))
              (u8 i.val ++ u32 f.limit ++ u16 f.confirm ++ u16 f.count) (s.updFrame i fun _ => f)))
    ∧ (∀ index limit confirm, 4 ≤ index →
        exec (.setFrame .director tag index limit confirm) s = .next (replied .director 0x21#8 tag .badField [] s))
    ∧ (∀ rate : Nat,
        exec (.setAlignment .director tag rate) s
          = .next (replied .director 0x22#8 tag (okOr (decide (rate < 1 ∨ 200000 < rate))) []
              (s.updAsa fun x => { x with alignRate := clampNat 1 200000 rate })))

/-- R1: rounding is to the nearest integer, with halves away from zero, whatever the sign of the denominator. -/
def Obligations.RoundingIsToTheNearest : Prop :=
  (∀ n d : Int, d ≠ 0 →
    2 * (roundDiv n d * d - n).natAbs ≤ d.natAbs
    ∧ (2 * (roundDiv n d * d - n).natAbs = d.natAbs → n.natAbs < (roundDiv n d * d).natAbs))
  ∧ roundDiv 15625 2 = 7813 ∧ roundDiv (-7) 2 = -4

/-- R42: the seeded offset makes the unclamped setpoint of R40 equal the chosen force. -/
def Obligations.SeedingReproducesTheForce : Prop :=
  ∀ (pFine force : Int) (share : Nat),
    roundDiv (pFine * share + seedOffset pFine force share * 1000) 1024000 = force

/-! ### The load sequencer (01) -/

/-- R18: the load of a half-cycle stays between its start and its end, and stands exactly at the end at k = H_eff. -/
def Obligations.HalfCycleStaysBetweenItsEnds : Prop :=
  ∀ h : Half, 0 < h.len → h.k ≤ h.len →
    (h.start ≤ h.stop → h.start ≤ halfLoad h ∧ halfLoad h ≤ h.stop)
    ∧ (h.stop ≤ h.start → h.stop ≤ halfLoad h ∧ halfLoad h ≤ h.start)
    ∧ (h.k = h.len → halfLoad h = h.stop)

/-- R3 to R6: APPEND SEGMENT for each kind of segment, its refusal FULL, WRITE SEGMENT, and CLEAR PROGRAM.  That a
full table is answered FULL before the fields are looked at is log 33. -/
def Obligations.ProgramRequestsEditTheTable : Prop :=
  ∀ (tag : Byte) (s : State), Accepts .director s →
    let len := s.lsq.prog.length
    let appends (arg : SegArg) (seg : Segment) (rep : Option Nat) (clamped : Bool) : Prop :=
      exec (.appendSegment .director tag arg) s
        = .next (replied .director 0x10#8 tag (okOr clamped) (u8 len ++ u8 (len + 1))
            (s.updLsq fun q => { q with prog := q.prog ++ [{ seg := seg, rep := rep }] }))
    (len < 128 →
      (∀ target rate, appends (.ramp target rate)
          (.ramp (clampInt (-1000000) 1000000 target) (clampNat 1 200000 rate)) none
          (decide (target < -1000000 ∨ 1000000 < target ∨ rate < 1 ∨ 200000 < rate)))
      ∧ (∀ dur (mark : Bool), appends (.hold dur mark.toNat) (.hold (clampNat 1 4294967295 dur) mark) none
          (decide (dur < 1 ∨ 4294967295 < dur)))
      ∧ (∀ valley peak half count (stiff : Bool),
          -1000000 ≤ valley → valley ≤ peak → peak ≤ 1000000 →
          appends (.cycle valley peak half count stiff.toNat)
            (.cycle valley peak (clampNat 16 8192 half) (clampNat 1 4294967295 count) stiff) none
            (decide (half < 16 ∨ 8192 < half ∨ count < 1 ∨ 4294967295 < count)))
      ∧ (∀ id (need : Consent), id ≠ 0 → appends (.gate id need.code) (.gate id need) none false)
      ∧ (∀ target count, target ≤ len → count ≤ 65535 →
          appends (.jump target count) (.jump target count) (some count) false)
      ∧ (∀ kind, exec (.appendSegment .director tag (.unknown kind)) s
          = .next (replied .director 0x10#8 tag .badField [] s)))
    ∧ (128 ≤ len → ∀ arg,
        exec (.appendSegment .director tag arg) s = .next (replied .director 0x10#8 tag .full [] s))
    ∧ (∀ index arg seg clamped, index < len → checkSegment len arg = some (seg, clamped) →
        exec (.writeSegment .director tag index arg) s
          = .next (replied .director 0x11#8 tag (okOr clamped) (u8 index)
              (s.updLsq fun q =>
                { q with prog := q.prog.set index
                          { seg := seg, rep := match seg with | .jump _ n => some n | _ => none } })))
    ∧ (∀ index arg, len ≤ index →
        exec (.writeSegment .director tag index arg) s = .next (replied .director 0x11#8 tag .badField [] s))
    ∧ (seqResting s = true →
        ∃ t, exec (.clearProgram .director tag) s = .next t
          ∧ t.lsq = { s.lsq with prog := [], restart := none, pos := ⟨0, 0⟩, running := none, state := .idle }
          ∧ t = { s with lsq := t.lsq, lki := t.lki })
    ∧ (seqResting s = false →
        exec (.clearProgram .director tag) s = .next (replied .director 0x12#8 tag .wrongState [] s))

/-- R10, R11: RUN and RESTART begin alignment, or PAUSED with resume state ALIGNING where a claim stands; where they are
refused WRONG_STATE; and where RESTART is refused BAD_FIELD: an index past the program, and a saved CYCLE whose cycles
done have reached the count now in the table. -/
def Obligations.RunAndRestartBeginAlignment : Prop :=
  ∀ (tag : Byte) (s : State), Accepts .director s →
    let may := s.pru.state = .armed ∨ s.pru.state = .holding
    let begun : SeqState := if s.lsq.claims.any then .paused .aligning else .aligning
    (s.lsq.state = .idle → may → s.lsq.prog ≠ [] →
      ∃ t, exec (.run .director tag) s = .next t
        ∧ t.lsq = { s.lsq with
              prog := s.lsq.prog.map (fun e => match e.seg with | .jump _ n => { e with rep := some n } | _ => e),
              pos := ⟨0, 0⟩, running := none, restart := none, consentPanel := false, consentDirector := false,
              state := begun }
        ∧ t = { s with lsq := t.lsq, lki := t.lki })
    ∧ ((s.lsq.state ≠ .idle ∨ ¬ may ∨ s.lsq.prog = []) →
        exec (.run .director tag) s = .next (replied .director 0x14#8 tag .wrongState [] s))
    ∧ (∀ i e, (s.lsq.state = .stopped ∨ s.lsq.state = .done) → may → s.lsq.prog[i]? = some e →
        let carried : Option Nat :=
          match s.lsq.restart with
          | some r => if r.index = i ∧ e.seg.isCycle = true then r.cycles else none
          | none => none
        (∀ c v k h n o, carried = some c → e.seg = .cycle v k h n o → c < n) →
        ∃ t, exec (.restart .director tag i) s = .next t
          ∧ t.lsq = { s.lsq with pos := ⟨i, carried.getD 0⟩, running := none, restart := none, consentPanel := false,
                                 consentDirector := false, state := begun }
          ∧ t = { s with lsq := t.lsq, lki := t.lki })
    ∧ (∀ i, (s.lsq.state = .stopped ∨ s.lsq.state = .done) → may → s.lsq.prog.length ≤ i →
        exec (.restart .director tag i) s = .next (replied .director 0x15#8 tag .badField [] s))
    ∧ (∀ i c e v k h n o, (s.lsq.state = .stopped ∨ s.lsq.state = .done) → may → s.lsq.prog[i]? = some e →
        e.seg = .cycle v k h n o → s.lsq.restart = some { index := i, cycles := some c } → n ≤ c →
        exec (.restart .director tag i) s = .next (replied .director 0x15#8 tag .badField [] s))
    ∧ (∀ i, ((s.lsq.state ≠ .stopped ∧ s.lsq.state ≠ .done) ∨ ¬ may) →
        exec (.restart .director tag i) s = .next (replied .director 0x15#8 tag .wrongState [] s))

/-- R22, R24, R25: HOLD places the sender's claim and pauses a sequencer on its way; RESUME removes it and, the set
then empty, returns to the resume state; OPEN GATE with the id of the gate in force records the sender's consent, with
another id is answered STALE_GATE and with no gate in force NOT_GATED.  That an id 0 is answered so too is log 41. -/
def Obligations.ClaimAndConsentRequests : Prop :=
  ∀ (l : Link) (tag : Byte) (s : State), Accepts l s →
    let with_ (v : Bool) : Claims :=
      match l with
      | .director => { s.lsq.claims with director := v }
      | .panel => { s.lsq.claims with panel := v }
    (∃ t, exec (.hold l tag) s = .next t
      ∧ t.lsq = { s.lsq with
          claims := with_ true,
          state := match s.lsq.state with
            | .aligning => .paused .aligning | .running => .paused .running | .gated => .paused .gated | x => x }
      ∧ t = { s with lsq := t.lsq, lki := t.lki })
    ∧ (∃ t, exec (.resume l tag) s = .next t
        ∧ t.lsq = { s.lsq with
            claims := with_ false,
            state := match s.lsq.state, (with_ false).any with
              | .paused r, false => (match r with | .aligning => .aligning | .running => .running | .gated => .gated)
              | x, _ => x }
        ∧ t = { s with lsq := t.lsq, lki := t.lki })
    ∧ (∀ (r : Running) (id : Nat) (need : Consent), s.lsq.running = some r → r.seg = .gate id need →
        (s.lsq.state = .gated ∨ s.lsq.state = .paused .gated) →
        (∃ t, exec (.openGate l tag id) s = .next t
          ∧ t.lsq = (match l with
              | .panel => { s.lsq with consentPanel := true }
              | .director => { s.lsq with consentDirector := true })
          ∧ t = { s with lsq := t.lsq, lki := t.lki })
        ∧ ∀ other, other ≠ id →
            exec (.openGate l tag other) s = .next (replied l 0x18#8 tag .staleGate [] s))
    ∧ (∀ id, s.lsq.state ≠ .gated → s.lsq.state ≠ .paused .gated →
        exec (.openGate l tag id) s = .next (replied l 0x18#8 tag .notGated [] s))

/-- R12 to R19, R21, R23, R25, R45, R56, R57, R64, R101, R102: what a servo period does to the sequencer in each of its
states.  First with no survey at work and no protection move in the period: a RUNNING one enters the segment at its position and works
it, kind by kind; ALIGNING moves the offsets, which stand still in every other state; a GATE is left with its consents;
PAUSED interrupts a cycle.  A rising half that opens opens a cycle window on the actuators that are ENABLED with share
above 0; a window takes the values of every period that does not close it; and a CYCLE entered with its stiffness
option puts those actuators' references into CAPTURING.  At the period at which a HOLD's count reaches its duration,
with no survey holding it, the next index becomes the position, not yet entered, or the program is DONE.  The row
HOLD_DURATION_EXPIRY is that period (log 3).  While UNLOADING the program does nothing; what the period does to the
unload values and at their completion is said of the array.  Then with a survey at work, on the state `u` in which the
sequencer's work finds things, after the clocks, an advance's tests and the settle count (log 4): a HOLD's end and a
gate's leave wait while an entry that the segment triggered is in settle, COLLECTING or STALLED; and a HOLD with its
survey mark, or a GATE, that is entered triggers the entry that waits for it.  Where the period is no advance of hall time
and no settle is reached, `u` has the program and the waits of `s`.  That a CYCLE ends where cycles done is N or more is
log 17, and that any period in PAUSED marks the running CYCLE interrupted log 10. -/
def Obligations.ServoPeriodWorksTheProgram : Prop :=
  (∀ s : State, SurveysQuiet s → s.pru.state ≠ .unloading →
    ∃ t, exec .servoPeriodExpiry s = .next t
      ∧ (t.pru.state = s.pru.state →
          let q := s.lsq
          let next := q.pos.index + 1
          let counts (i : Fin 8) : Bool := (s.act i).cfg.enabled && decide (0 < (s.act i).cfg.share)
          (∀ r target rate, AtWork q r → r.seg = .ramp target rate →
            let step := if s.ckm.caution then max 1 (rate / 2) else rate
            let goal := target * 1024
            t.lsq =
              if (goal - q.pFine).natAbs ≤ step then succeeded next { q with pFine := goal }
              else
                { q with running := some r, pFine := if q.pFine < goal then q.pFine + step else q.pFine - step })
          ∧ (∀ r dur mark, AtWork q r → r.seg = .hold dur mark → 1 ≤ dur →
              t.lsq =
                if dur ≤ r.holdCount + 1 then succeeded next q
                else { q with running := some { r with holdCount := r.holdCount + 1 } })
          ∧ (∀ r valley peak half count stiff, AtWork q r → r.seg = .cycle valley peak half count stiff →
              let h : Half :=
                match r.half with
                | some h => { h with k := h.k + 1 }
                | none =>
                    { start := roundDiv q.pFine 1024, stop := if r.nextRising then peak else valley,
                      len := if s.ckm.caution then min (2 * half) 8192 else half, k := 1, rising := r.nextRising }
              let q' := { q with pFine := halfLoad h * 1024 }
              let done := q.pos.cyclesDone + 1
              (h.k < h.len → t.lsq = { q' with running := some { r with half := some h } })
              ∧ (h.len ≤ h.k → h.rising = true →
                  t.lsq = { q' with running := some { r with half := none, nextRising := false } })
              ∧ (h.len ≤ h.k → h.rising = false →
                  t.lsq =
                    if count ≤ done then succeeded next { q' with pos := ⟨q.pos.index, done⟩ }
                    else
                      { q' with pos := ⟨q.pos.index, done⟩
                                running := some { r with half := none, nextRising := true, interrupted := false } })
              ∧ (h.k < h.len ∨ h.rising = true →
                  let opened : Window :=
                    { acts := ((allFin 8).filter counts).map fun i => { act := i, peak := none, valley := none }
                      peakLoad := peak, valleyLoad := valley }
                  t.cau = { s.cau with
                      window :=
                        if r.half = none ∧ r.nextRising = true then some (followed s opened)
                        else s.cau.window.map (followed s)
                      refs := t.cau.refs, dropRuns := t.cau.dropRuns }
                  ∧ ∀ i : Fin 8,
                      let captures := q.running = none ∧ stiff = true ∧ counts i = true
                      t.cau.refs.get i = (if captures then .capturing 0 0 else s.cau.refs.get i)
                      ∧ t.cau.dropRuns.get i = if captures then 0 else s.cau.dropRuns.get i))
          ∧ ((∀ r, AtWork q r ∨ (q.state = .gated ∧ q.running = some r) → r.seg.isCycle = false) →
              t.cau = { s.cau with window := s.cau.window.map (followed s) })
          ∧ (∀ r target count, AtWork q r → r.seg = .jump target count →
              let left := ((q.prog[q.pos.index]?).bind (fun e => e.rep)).getD 0
              let counted (n : Nat) : Lsq :=
                { q with prog := q.prog.modify q.pos.index (fun e => { e with rep := some n }) }
              t.lsq =
                if count = 0 then succeeded target q
                else if 0 < left then succeeded target (counted (left - 1))
                else succeeded next (counted count))
          ∧ (∀ r id need, AtWork q r → q.running = none → r.seg = .gate id need →
              t.lsq = { q with state := .gated, running := some r, consentPanel := false, consentDirector := false })
          ∧ (∀ r id need, q.state = .gated → q.running = some r → r.seg = .gate id need →
              let ready : Bool :=
                match need with
                | .panel => q.consentPanel
                | .director => q.consentDirector
                | .both => q.consentPanel && q.consentDirector
              t.lsq =
                if ready then succeeded next { q with consentPanel := false, consentDirector := false } else q)
          ∧ (∀ resume, q.state = .paused resume →
              t.lsq = { q with running := q.running.map fun r =>
                          if r.seg.isCycle then { r with interrupted := true } else r })
          ∧ (q.state = .aligning →
              (∀ i : Fin 8,
                let o := (s.act i).offset
                (t.act i).offset =
                  if o.natAbs ≤ s.asa.alignRate then 0
                  else if o < 0 then o + s.asa.alignRate else o - s.asa.alignRate)
              ∧ ((∀ i : Fin 8, (t.act i).offset = 0) → t.lsq = { q with state := .running })
              ∧ ((∃ i : Fin 8, (t.act i).offset ≠ 0) → t.lsq = q))
          ∧ (q.state ≠ .aligning → ∀ i : Fin 8, (t.act i).offset = (s.act i).offset)
          ∧ (seqResting s = true → t.lsq = q)))
  ∧ (∀ s : State, SurveysQuiet s → s.lsq.state = .unloading →
      ∃ t, exec .servoPeriodExpiry s = .next t
        ∧ (t.pru.state = s.pru.state →
            t.lsq = s.lsq ∧ t.cau = { s.cau with window := s.cau.window.map (followed s) }
            ∧ ∀ i : Fin 8, (t.act i).offset = (s.act i).offset))
  ∧ (∀ s : State,
      let u := settledStage s
      let q := u.lsq
      let next := q.pos.index + 1
      let waits (gate : Bool) : Prop :=
        (u.sve.state = .collecting ∨ u.sve.state = .stalled ∨ u.sve.state = .waiting)
        ∧ ∃ n, u.sve.trigger = .segment gate n
      let leaves (after : Lsq) : Prop :=
        ∃ t, exec .servoPeriodExpiry s = .next t ∧ (t.pru.state = u.pru.state → t.lsq = after)
      let awaited (i : Fin 64) (e : PlanEntry) : Prop :=
        u.sve.state = .waiting ∧ u.sve.trigger = .untriggered ∧ u.sve.current = some i ∧ u.entry i = some e
        ∧ 1 ≤ e.settle
      let triggers (gate : Bool) (i : Fin 64) (after : Lsq) : Prop :=
        ∃ t, exec .servoPeriodExpiry s = .next t
          ∧ (t.pru.state = u.pru.state →
              t.lsq = after ∧ t.sve.state = .waiting ∧ t.sve.current = some i ∧ t.sve.trigger = .segment gate 0)
      (hallAdvances s = false → bringsSettleExpiry s = false →
        u.lsq = s.lsq ∧ u.pru = s.pru ∧ u.sve.endless = s.sve.endless ∧ u.sve.state = s.sve.state
        ∧ u.sve.current = s.sve.current ∧ u.sve.plan = s.sve.plan
        ∧ ∀ gate, (∃ n, u.sve.trigger = .segment gate n) ↔ ∃ n, s.sve.trigger = .segment gate n)
      ∧ (u.sve.endless = false →
        (∀ r dur mark, q.state = .running → q.running = some r → r.seg = .hold dur mark →
          (waits false → leaves { q with running := some { r with holdCount := min dur (r.holdCount + 1) } })
          ∧ (¬ waits false →
              leaves
                (if dur ≤ r.holdCount + 1 then succeeded next q
                 else { q with running := some { r with holdCount := r.holdCount + 1 } })))
        ∧ (∀ r id need, q.state = .gated → q.running = some r → r.seg = .gate id need →
            let ready : Bool :=
              match need with
              | .panel => q.consentPanel
              | .director => q.consentDirector
              | .both => q.consentPanel && q.consentDirector
            (waits true → leaves q)
            ∧ (¬ waits true →
                leaves
                  (if ready then succeeded next { q with consentPanel := false, consentDirector := false } else q)))
        ∧ (∀ r dur i e, AtWork q r → q.running = none → r.seg = .hold dur true → awaited i e → e.trigger = .onHold →
            triggers false i { q with running := some { r with holdCount := 1 } })
        ∧ (∀ r id need i e, AtWork q r → q.running = none → r.seg = .gate id need → awaited i e →
            e.trigger = .onGate →
            triggers true i
              { q with state := .gated, running := some r, consentPanel := false, consentDirector := false })))
  ∧ ∀ s : State, PlanQuiet s → s.pru.state = .armed → bringsHoldExpiry s = true →
    ∃ t, exec .holdDurationExpiry s = .next t
      ∧ t.lsq.running = none ∧ t.lsq.pFine = s.lsq.pFine
      ∧ (s.lsq.pos.index + 1 < s.lsq.prog.length →
          t.lsq.pos = ⟨s.lsq.pos.index + 1, 0⟩ ∧ (t.pru.state = .armed → t.lsq.state = .running))
      ∧ (s.lsq.prog.length ≤ s.lsq.pos.index + 1 →
          t.lsq.pos = s.lsq.pos ∧ (t.pru.state = .armed → t.lsq.state = .done))

/-! ### Cycle accounting (03) -/

/-- R19, R57, R59 to R64, R66, R67: at the period at which a cycle completes, its window takes the period's values and
closes, the cycle is judged, the total and its judgement's counter rise by one unless counting has stopped, the tracking
run and the capture or drop run of each qualifying actuator follow, TRACKING and STIFFNESS latch their subjects, and the
CYCLE record is kept or its loss counted.  The row CYCLE_COMPLETION is that period (log 3).  That the completion which
forms a reference is not tested for a drop is log 15, and that a CYCLE ends where cycles done is N or more log 17. -/
def Obligations.CycleCompletionIsCountedAndJudged : Prop :=
  ∀ (w : Window) (r : Running) (valley peak : Int) (half count : Nat) (stiff : Bool) (s : State), PlanQuiet s →
    bringsCycleCompletion s = true → s.cau.window = some w → s.lsq.running = some r →
    r.seg = .cycle valley peak half count stiff →
    let c := s.cau
    let now (i : Fin 8) : Extreme := { force := (s.act i).force, disp := (s.act i).disp }
    let acts : List QualAct := w.acts.map fun q =>
      { q with
        peak := some
          (match q.peak with | some p => if p.force < (now q.act).force then now q.act else p | none => now q.act)
        valley := some
          (match q.valley with | some p => if (now q.act).force < p.force then now q.act else p | none => now q.act) }
    let at_ (q : QualAct) (load : Int) : Int :=
      let g := (s.act q.act).cfg
      clampInt g.fmin g.fmax (roundDiv (load * g.share) 1000)
    let inTol (q : QualAct) : Bool :=
      match q.peak, q.valley with
      | some p, some v =>
          decide ((p.force - at_ q w.peakLoad).natAbs ≤ (s.act q.act).cfg.peakTol)
            && decide ((v.force - at_ q w.valleyLoad).natAbs ≤ (s.act q.act).cfg.peakTol)
      | _, _ => false
    let j : Judgement :=
      if r.interrupted || acts.isEmpty then .notJudged
      else if acts.all inTol then .achieved
      else .outOfTolerance
    let judged := decide (j ≠ .notJudged)
    let stiffness (q : QualAct) : Option Nat :=
      match judged, q.peak, q.valley with
      | true, some p, some v =>
          if c.cfg.stroke ≤ p.disp - v.disp then
            some (roundDiv ((p.force - v.force) * 1000) (p.disp - v.disp)).toNat
          else none
      | _, _, _ => none
    let counts := decide (c.total < 4294967295)
    let one (x : Judgement) : Nat := if counts = true ∧ j = x then 1 else 0
    let misses := decide (j = .outOfTolerance ∧ c.cfg.tracking ≤ c.trackRun + 1)
    let below (q : QualAct) : Bool :=
      match stiffness q, c.refs.get q.act with
      | some k, .valid v => decide (k * 1000 < v * (1000 - c.cfg.drop))
      | _, _ => false
    let drops (q : QualAct) : Bool := below q && decide (c.cfg.dropRun ≤ c.dropRuns.get q.act + 1)
    ∃ t, exec .cycleCompletion s = .next t
      ∧ t.cau.window = none
      ∧ t.cau.total = c.total + (if counts then 1 else 0)
      ∧ t.cau.achieved = c.achieved + one .achieved ∧ t.cau.outTol = c.outTol + one .outOfTolerance
      ∧ t.cau.notJudged = c.notJudged + one .notJudged
      ∧ t.cau.last = some
          { total := t.cau.total, judgement := j, interrupted := r.interrupted,
            acts := acts.map fun q =>
              { act := q.act, inTol := if judged then some (inTol q) else none, stiffness := stiffness q } }
      ∧ t.cau.trackRun =
          (match j with
           | .achieved => 0
           | .notJudged => c.trackRun
           | .outOfTolerance => if misses then 0 else min 255 (c.trackRun + 1))
      ∧ (∀ x, x ∈ (t.cause .tracking).latched
          ↔ x ∈ (s.cause .tracking).latched ∨ (misses = true ∧ ∃ q ∈ acts, q.act.val = x ∧ inTol q = false))
      ∧ ((w.acts.map fun q => q.act).Nodup →
          (∀ q ∈ acts, ∀ k, stiffness q = some k →
            (∀ n sum, c.refs.get q.act = .capturing n sum →
              t.cau.dropRuns.get q.act = c.dropRuns.get q.act
              ∧ t.cau.refs.get q.act =
                  if c.cfg.capture ≤ n + 1 then .valid (roundDiv ((sum + k : Nat) : Int) ((n + 1 : Nat) : Int)).toNat
                  else .capturing (n + 1) (sum + k))
            ∧ (∀ v, c.refs.get q.act = .valid v →
                t.cau.refs.get q.act = .valid v
                ∧ t.cau.dropRuns.get q.act =
                    if below q then (if drops q then 0 else min 255 (c.dropRuns.get q.act + 1)) else 0))
          ∧ (∀ i : Fin 8, (c.refs.get i = .none ∨ ∀ q ∈ acts, q.act = i → stiffness q = none) →
              t.cau.refs.get i = c.refs.get i ∧ t.cau.dropRuns.get i = c.dropRuns.get i)
          ∧ (∀ x, x ∈ (t.cause .stiffness).latched
              ↔ x ∈ (s.cause .stiffness).latched ∨ ∃ q ∈ acts, q.act.val = x ∧ drops q = true))
      ∧ (SurveysQuiet s → t.pru.state = s.pru.state →
          let decimation := decide (0 < c.cfg.decimation) && counts && decide (t.cau.total % c.cfg.decimation = 0)
          let exception := c.cfg.exceptions && decide (j = .outOfTolerance)
          let kept := decimation || exception
          let room := decide (fill s < 256 ∧ otherCount s < 252)
          let body : CycleBody :=
            { decimation := decimation, exception := exception, total := t.cau.total, counted := counts,
              index := s.lsq.pos.index, cyclesDone := s.lsq.pos.cyclesDone + 1, judgement := j,
              interrupted := r.interrupted,
              acts := acts.map fun q =>
                { act := q.act, peakSet := at_ q w.peakLoad, valleySet := at_ q w.valleyLoad, peak := q.peak,
                  valley := q.valley, inTol := if judged then some (inTol q) else none, stiffness := stiffness q,
                  ref := t.cau.refs.get q.act } }
          t.cst.records = s.cst.records ++
              (if kept && room then [{ number := s.cst.nextNo, stamp := t.tmb.hall, body := .cycle body }] else [])
          ∧ t.cau.lost = (if kept && !room then min 4294967295 (c.lost + 1) else c.lost))
      ∧ t.lsq.pos =
          (if count ≤ s.lsq.pos.cyclesDone + 1 ∧ s.lsq.pos.index + 1 < s.lsq.prog.length then ⟨s.lsq.pos.index + 1, 0⟩
           else ⟨s.lsq.pos.index, s.lsq.pos.cyclesDone + 1⟩)

/-- R43, R50, R160: at the period at which the unload completes, the sequencer is STOPPED, PRU is UNLOADED (or a report
of the period has dumped it), no unload value is left, and the program load is seeded from the period's Pm.  That the
seeded program load outlives the dump, where R164 leaves open what the dump undoes, is the model's choice (log 54).  The
row is that period (log 3). -/
def Obligations.UnloadCompletionStopsTheSequencer : Prop :=
  ∀ s : State, PlanQuiet s → bringsUnloadCompletion s = true →
    ∃ t, exec .unloadCompletion s = .next t
      ∧ t.lsq.state = .stopped ∧ (t.pru.state = .unloaded ∨ t.pru.state = .dumped)
      ∧ (∀ i : Fin 8, (t.act i).unload = none)
      ∧ t.lsq.pFine = clampInt (-1000000) 1000000 t.asa.pm * 1024

/-- R65, R69, R71: the requests of the Cycle Accounting Unit that write; OK_CLAMPED answers where a setting was clamped.
A record-exceptions value that is neither on nor off, and an actuator that does not exist, are refused BAD_FIELD.  How
the replies carry a stiffness reference is log 13. -/
def Obligations.CycleAccountingRequestsWrite : Prop :=
  ∀ (tag : Byte) (s : State), Accepts .director s →
    (∀ (a : CycleArg) (e : Bool), a.exceptions = e.toNat →
      let c : CycleCfg :=
        { tracking := clampNat 1 255 a.tracking, stroke := clampNat 1 100000 a.stroke,
          capture := clampNat 1 255 a.capture, drop := clampNat 1 999 a.drop, dropRun := clampNat 1 255 a.dropRun,
          decimation := clampNat 0 65535 a.decimation, exceptions := e }
      let outside (lo hi v : Nat) : Prop := v < lo ∨ hi < v
      let clamped := decide
        (outside 1 255 a.tracking ∨ outside 1 100000 a.stroke ∨ outside 1 255 a.capture ∨ outside 1 999 a.drop
          ∨ outside 1 255 a.dropRun ∨ outside 0 65535 a.decimation)
      exec (.setCycleAccounting .director tag a) s
        = .next (replied .director 0x28#8 tag (okOr clamped) (encCycleCfg c) (s.updCau fun x => { x with cfg := c })))
    ∧ (∀ a : CycleArg, 1 < a.exceptions →
        exec (.setCycleAccounting .director tag a) s = .next (replied .director 0x28#8 tag .badField [] s))
    ∧ exec (.resetCycleCounters .director tag) s
        = .next (replied .director 0x2A#8 tag .ok []
            (s.updCau fun x => { x with total := 0, achieved := 0, outTol := 0, notJudged := 0, lost := 0 }))
    ∧ (∀ (i : Fin 8) (v : Nat),
        let w := clampNat 1 2000000000 v
        exec (.setStiffnessReference .director tag i.val v) s
          = .next (replied .director 0x2B#8 tag (okOr (decide (v < 1 ∨ 2000000000 < v))) (encStiffRef (.valid w))
              (s.updCau fun x => { x with refs := x.refs.set i (.valid w), dropRuns := x.dropRuns.set i 0 })))
    ∧ (∀ i : Fin 8,
        exec (.clearStiffnessReference .director tag i.val) s
          = .next (replied .director 0x2C#8 tag .ok (encStiffRef .none)
              (s.updCau fun x => { x with refs := x.refs.set i .none, dropRuns := x.dropRuns.set i 0 })))
    ∧ (∀ i : Nat, 8 ≤ i →
        (∀ v, exec (.setStiffnessReference .director tag i v) s
          = .next (replied .director 0x2B#8 tag .badField [] s))
        ∧ exec (.clearStiffnessReference .director tag i) s = .next (replied .director 0x2C#8 tag .badField [] s))

/-! ### Strain (04) -/

/-- R73, R74, R79: a scan sets its module's arrival time and ends its silence; each gauge on one of its inputs takes
the ratio, and its strain where the ratio is good; no other gauge changes. -/
def Obligations.ScanBecomesLatestValues : Prop :=
  ∀ (m : Fin 16) (inputs : List RatioIn) (s : State), SurveysQuiet s →
    ∃ t, exec (.scanArrival m.val inputs) s = .next t
      ∧ (t.module m).last = s.tmb.hall ∧ (t.module m).silent = false
      ∧ ((s.module m).silent = true → m.val ∉ (t.cause .frontendSilent).active)
      ∧ (∀ (g : Fin 256) (i : Fin 16) (r : RatioIn), (s.gauge g).mapping = some (m, i) → inputs[i.val]? = some r →
          let old := s.gauge g
          (t.gauge g).ratio = r.ratio ∧ (t.gauge g).at_ = s.tmb.hall
          ∧ (r.overRange = false → r.ratio.natAbs ≤ 8000000 →
              (t.gauge g).validity = .valid
              ∧ (t.gauge g).strain = roundDiv (10 * old.bridge * (r.ratio - old.zero)) old.gfm)
          ∧ ((r.overRange = true ∨ 8000000 < r.ratio.natAbs) →
              (t.gauge g).validity = .overRange ∧ (t.gauge g).strain = old.strain))
      ∧ (∀ g : Fin 256, (∀ i, (s.gauge g).mapping ≠ some (m, i)) → t.gauge g = s.gauge g)

/-- R86 to R88, R150: what an arrival does to a gauge's deviation check.  With the check out of force, or at a value that
is not VALID, nothing; in SAFE and DUMPED no deviation is computed, and one that held ends.  Elsewhere the deviation is
kept: within the band the run is 0 and a condition that held ends, its subject active no longer; beyond the band for the
confirm-th time in a row DEVIATION starts, latched and active, the flag set.  An end leaves the flag and the latched
subject.  That a condition which holds goes on until the run is 0, though the confirm count was raised, is log 34. -/
def Obligations.DeviationStartsAtItsConfirmCount : Prop :=
  ∀ (m i : Fin 16) (g : Fin 256) (inputs : List RatioIn) (r : RatioIn) (s : State),
    SurveysQuiet s → (s.gauge g).mapping = some (m, i) → inputs[i.val]? = some r →
    let old := s.gauge g
    let valid := r.overRange = false ∧ r.ratio.natAbs ≤ 8000000
    let subject (latched active : Prop) (t : State) : Prop :=
      (g.val ∈ (t.cause .deviation).latched ↔ latched) ∧ (g.val ∈ (t.cause .deviation).active ↔ active)
    let wasLatched := g.val ∈ (s.cause .deviation).latched
    let wasActive := g.val ∈ (s.cause .deviation).active
    let ended (t : State) : Prop :=
      (t.gauge g).devRun = 0 ∧ (t.gauge g).devHolds = false ∧ (t.gauge g).devFlag = old.devFlag
      ∧ subject wasLatched (wasActive ∧ old.devHolds = false) t
    ∃ t, exec (.scanArrival m.val inputs) s = .next t
      ∧ (¬ valid ∨ old.watch = false ∨ (∀ pLo epsLo slope, old.ref ≠ .valid pLo epsLo slope) →
          (t.gauge g).lastDev = old.lastDev ∧ (t.gauge g).devRun = old.devRun
          ∧ (t.gauge g).devHolds = old.devHolds ∧ (t.gauge g).devFlag = old.devFlag ∧ subject wasLatched wasActive t)
      ∧ ∀ pLo epsLo slope, valid → old.watch = true → old.ref = .valid pLo epsLo slope →
          (s.pru.state = .safe ∨ s.pru.state = .dumped → (t.gauge g).lastDev = none ∧ ended t)
          ∧ (s.pru.state ≠ .safe → s.pru.state ≠ .dumped →
              let strain := roundDiv (10 * old.bridge * (r.ratio - old.zero)) old.gfm
              let d := strain - (epsLo + roundDiv (slope * (s.asa.pm - pLo)) 65536)
              let run := min 255 (old.devRun + 1)
              let starts := old.devHolds = false ∧ old.confirm ≤ run
              (t.gauge g).lastDev = some d
              ∧ (d.natAbs ≤ old.band → ended t)
              ∧ (old.band < d.natAbs →
                  (t.gauge g).devRun = run
                  ∧ ((t.gauge g).devHolds = true ↔ old.devHolds = true ∨ old.confirm ≤ run)
                  ∧ ((t.gauge g).devFlag = true ↔ old.devFlag = true ∨ starts)
                  ∧ subject (wasLatched ∨ starts) (wasActive ∨ starts) t))

/-- R74, R77, R78: MAP GAUGE writes the settings; a gauge that moves to another input loses its zero, reference and
latest value, one whose bridge or gauge factor changes its reference and latest value; the end of a check ends its
DEVIATION, and a module that the gauge leaves last ends its silence.  An input another gauge holds is refused IN_USE,
then a change to a gauge being gathered BUSY, but a field that no gauge map has BAD_FIELD first.  UNMAP GAUGE frees the
input and changes nothing of an UNMAPPED gauge.  That a gathered gauge is BUSY before UNMAP GAUGE asks anything else of
it is log 33; that the replies give the ratio and strain of a gauge that is not VALID as absent is log 37. -/
def Obligations.GaugeMapRequestsChangeTheMap : Prop :=
  ∀ (tag : Byte) (s : State), Accepts .director s →
    let only (t : State) : Prop :=
      t = { s with ssu := { s.ssu with gauges := t.ssu.gauges, modules := t.ssu.modules },
                   pru := { s.pru with causes := t.pru.causes } }
    (∀ (a : GaugeArg) (g : Fin 256) (m i : Fin 16) (w : Bool),
      a.gauge = g.val → a.module = m.val → a.input = i.val → a.watch = w.toNat →
      (a.bridge = 1 ∨ a.bridge = 2 ∨ a.bridge = 4) →
      let old := s.gauge g
      let gfm := clampNat 1000 4000 a.gfm
      let band := clampNat 1 2000000 a.band
      let confirm := clampNat 1 255 a.confirm
      let moves := old.mapping ≠ some (m, i)
      let scales := old.bridge ≠ a.bridge ∨ old.gfm ≠ gfm
      let drops := moves ∨ scales ∨ (old.watch = true ∧ w = false)
      let set : Gauge :=
        { old with mapping := some (m, i), bridge := a.bridge, gfm := gfm, watch := w, band := band,
                   confirm := confirm }
      let unchecked : Gauge := { set with devRun := 0, lastDev := none, devHolds := false }
      let holder := ∃ h, h ≠ g ∧ (s.gauge h).mapping = some (m, i)
      (¬ holder → (gathering s g = false ∨ ¬ (moves ∨ scales)) →
        ∃ t, exec (.mapGauge .director tag a) s
              = .next (replied .director 0x30#8 tag
                  (okOr (decide (gfm ≠ a.gfm ∨ band ≠ a.band ∨ confirm ≠ a.confirm))) (readsGauge t g) t)
          ∧ t.gauge g =
              (if moves then { unchecked with zero := 0, ref := .none, validity := .noneYet }
               else if scales then { unchecked with ref := .none, validity := .noneYet }
               else if old.watch = true ∧ w = false then unchecked
               else set)
          ∧ (∀ h, h ≠ g → t.gauge h = s.gauge h) ∧ ModulesLeft g s t ∧ GaugeEnds g drops s t ∧ only t)
      ∧ (holder → exec (.mapGauge .director tag a) s = .next (replied .director 0x30#8 tag .inUse [] s))
      ∧ (¬ holder → gathering s g = true → moves ∨ scales →
          exec (.mapGauge .director tag a) s = .next (replied .director 0x30#8 tag .busy [] s)))
    ∧ (∀ a : GaugeArg,
        (256 ≤ a.gauge ∨ 16 ≤ a.module ∨ 16 ≤ a.input ∨ (a.bridge ≠ 1 ∧ a.bridge ≠ 2 ∧ a.bridge ≠ 4) ∨ 2 ≤ a.watch) →
        exec (.mapGauge .director tag a) s = .next (replied .director 0x30#8 tag .badField [] s))
    ∧ (∀ gauge, 256 ≤ gauge →
        exec (.unmapGauge .director tag gauge) s = .next (replied .director 0x31#8 tag .badField [] s))
    ∧ (∀ g : Fin 256, gathering s g = false → (s.gauge g).mapping ≠ none →
        ∃ t, exec (.unmapGauge .director tag g.val) s
              = .next (replied .director 0x31#8 tag .ok (readsGauge t g) t)
          ∧ t.gauge g =
              { s.gauge g with mapping := none, zero := 0, ref := .none, validity := .noneYet, devRun := 0,
                               lastDev := none, devHolds := false }
          ∧ (∀ h, h ≠ g → t.gauge h = s.gauge h) ∧ ModulesLeft g s t ∧ GaugeEnds g True s t ∧ only t)
    ∧ (∀ g : Fin 256, gathering s g = false → (s.gauge g).mapping = none →
        exec (.unmapGauge .director tag g.val) s = .next (replied .director 0x31#8 tag .ok (readsGauge s g) s))
    ∧ (∀ g : Fin 256, gathering s g = true →
        exec (.unmapGauge .director tag g.val) s = .next (replied .director 0x31#8 tag .busy [] s))

/-- R81, R82, R85: a zero that differs clears the gauge's reference and latest value, an equal one changes nothing, and
a gauge being gathered is refused BUSY; a group's list is replaced whole; references are cleared, one or all, with the
count of those there were.  A deviation that held for a gauge whose reference goes is active no longer.  A gauge or
group that does not exist, and a list that is too long or names a gauge twice, are refused BAD_FIELD.  The layout of the
reply to SET GROUP, and the u16 width of the count in the replies to CLEAR REFERENCE, of one gauge and of ALL, are the
model's choice (log 13); that the reply to SET ZERO gives the ratio and strain of a gauge that is not VALID as absent is
log 37. -/
def Obligations.ZeroGroupAndReferenceRequestsWrite : Prop :=
  ∀ (tag : Byte) (s : State), Accepts .director s →
    let only (t : State) : Prop :=
      t = { s with ssu := { s.ssu with gauges := t.ssu.gauges }, pru := { s.pru with causes := t.pru.causes } }
    let ends (gs : Fin 256 → Prop) (k : CauseKind) (x : Nat) : Prop :=
      k = .deviation ∧ ∃ g : Fin 256, x = g.val ∧ gs g ∧ (s.gauge g).devHolds = true
    (∀ (g : Fin 256) (zero : Int), gathering s g = false →
      let z := clampInt (-8000000) 8000000 zero
      ∃ t, exec (.setZero .director tag g.val zero) s
            = .next (replied .director 0x33#8 tag (okOr (decide (z ≠ zero))) (readsGauge t g) t)
        ∧ t.gauge g =
            (if (s.gauge g).zero = z then s.gauge g
             else { s.gauge g with zero := z, ref := .none, validity := .noneYet, devRun := 0, lastDev := none,
                                   devHolds := false })
        ∧ (∀ h, h ≠ g → t.gauge h = s.gauge h) ∧ only t
        ∧ CausesEnd (ends fun h => h = g ∧ (s.gauge g).zero ≠ z) s t)
    ∧ (∀ (g : Fin 256) (zero : Int), gathering s g = true →
        exec (.setZero .director tag g.val zero) s = .next (replied .director 0x33#8 tag .busy [] s))
    ∧ (∀ gauge zero, 256 ≤ gauge →
        exec (.setZero .director tag gauge zero) s = .next (replied .director 0x33#8 tag .badField [] s))
    ∧ (∀ (i : Nat) (l : List Nat), (32 ≤ i ∨ 64 < l.length ∨ (∃ g ∈ l, 256 ≤ g) ∨ ¬ l.Nodup) →
        exec (.setGroup .director tag i l) s = .next (replied .director 0x32#8 tag .badField [] s))
    ∧ (∀ gauge, 256 ≤ gauge →
        exec (.clearReference .director tag gauge) s = .next (replied .director 0x34#8 tag .badField [] s))
    ∧ (∀ (i : Fin 32) (l : List (Fin 256)), l.length ≤ 64 → l.Nodup →
        exec (.setGroup .director tag i.val (l.map Fin.val)) s
          = .next (replied .director 0x32#8 tag .ok (u8 i.val ++ listOf (l.map fun g => u8 g.val))
              (s.updSsu fun u => { u with groups := u.groups.set i l })))
    ∧ (∀ g : Fin 256,
        ∃ t, exec (.clearReference .director tag g.val) s
              = .next (replied .director 0x34#8 tag .ok (u16 (if (s.gauge g).ref = .none then 0 else 1)) t)
          ∧ t.gauge g = { s.gauge g with ref := .none, devRun := 0, lastDev := none, devHolds := false }
          ∧ (∀ h, h ≠ g → t.gauge h = s.gauge h) ∧ only t ∧ CausesEnd (ends fun h => h = g) s t)
    ∧ ∃ t, exec (.clearReferenceAll .director tag) s
            = .next (replied .director 0x34#8 tag .ok
                (u16 (s.ssu.gauges.cells.countP fun g => decide (g.ref ≠ .none))) t)
        ∧ (∀ g : Fin 256, t.gauge g = { s.gauge g with ref := .none, devRun := 0, lastDev := none, devHolds := false })
        ∧ only t ∧ CausesEnd (ends fun _ => True) s t

/-- R74, R138, R143, R150: at the advance of hall time that finds a module, the crack front-end or a channel silent
for 100 hundredths, it becomes SILENT, a module's gauges turn invalid, and FRONTEND_SILENT is latched and active with
it.  The rows are that period (log 3). -/
def Obligations.SilencesAreLatched : Prop :=
  ∀ s : State, SurveysQuiet s →
    (∀ m : Fin 16, bringsModuleSilence m s = true →
      ∃ t, exec (.moduleSilence m) s = .next t
        ∧ (t.module m).silent = true
        ∧ (∀ g i, (s.gauge g).mapping = some (m, i) → (t.gauge g).validity = .silent)
        ∧ m.val ∈ (t.cause .frontendSilent).latched ∧ m.val ∈ (t.cause .frontendSilent).active)
    ∧ (bringsFrontendSilence s = true →
        ∃ t, exec .frontendSilence s = .next t
          ∧ t.ckm.feSilent = true ∧ t.ckm.loops = s.ckm.loops
          ∧ 24 ∈ (t.cause .frontendSilent).latched ∧ 24 ∈ (t.cause .frontendSilent).active)
    ∧ ∀ c : Fin 8, bringsChannelSilence c s = true →
        ∃ t, exec (.channelSilence c) s = .next t
          ∧ (t.chan c).silent = true ∧ (t.chan c).ring = (s.chan c).ring ∧ (t.chan c).sum = (s.chan c).sum
          ∧ 16 + c.val ∈ (t.cause .frontendSilent).latched ∧ 16 + c.val ∈ (t.cause .frontendSilent).active

/-! ### Survey plans (05) -/

/-- R93, R94: WRITE PLAN ENTRY stores its fields with the engine's fields cleared, and is refused BUSY for a current
entry at work and for an entry completed in the open set; SET PLAN MODE; SET SURVEY SETTINGS.  An index, kind,
trigger, group or mode that does not exist, and RANGE without EVERY_CYCLES or the reverse, are refused BAD_FIELD.  The
replies carry what is stored, in the order of the requests (log 13), and the bits 3 to 7 of the marks are ignored (log
31). -/
def Obligations.PlanTableRequestsWrite : Prop :=
  ∀ (tag : Byte) (s : State), Accepts .director s →
    (∀ (a : PlanArg) (i next : Fin 64) (kind : SurveyKind) (group : Fin 32) (trig : TriggerKind),
      a.index = i.val → a.next = next.val → a.kind = kind.code → a.group = group.val → a.trigger = trig.code →
      (kind = .range ↔ trig = .everyCycles) →
      let e : PlanEntry :=
        { kind := kind, group := group, scans := clampNat 1 256 a.scans, trigger := trig,
          settle := clampNat 0 65535 a.settle, interval := clampNat 1 1000000 a.interval, next := next,
          holdMark := a.marks % 2 = 1, setEnd := a.marks / 2 % 2 = 1, notify := a.marks / 4 % 2 = 1,
          complete := false, result := none, setNo := none, setLast := none }
      let clamped := decide (e.scans ≠ a.scans ∨ e.settle ≠ a.settle ∨ e.interval ≠ a.interval)
      let atWork := s.sve.current = some i
        ∧ (s.sve.state = .waiting ∨ s.sve.state = .collecting ∨ s.sve.state = .stalled)
      let inSet := s.sve.openSet ≠ none
        ∧ ∃ x, s.entry i = some x ∧ x.complete = true ∧ x.setNo = some s.sve.setCounter
      (¬ atWork → ¬ inSet →
        exec (.writePlanEntry .director tag a) s
          = .next (replied .director 0x38#8 tag (okOr clamped) (encPlanEntry i e) (s.setEntry i (some e))))
      ∧ (atWork ∨ inSet →
          exec (.writePlanEntry .director tag a) s = .next (replied .director 0x38#8 tag .busy [] s)))
    ∧ (∀ (m : Bool) (j : Fin 64),
        exec (.setPlanMode .director tag m.toNat j.val) s
          = .next (replied .director 0x39#8 tag .ok (flag m ++ u8 j.val)
              (s.updSve fun v => { v with modeLast := m, lastIndex := j })))
    ∧ (∀ a : PlanArg,
        64 ≤ a.index ∨ 5 ≤ a.kind ∨ 32 ≤ a.group ∨ 4 ≤ a.trigger ∨ 64 ≤ a.next
          ∨ ¬ (a.kind = SurveyKind.range.code ↔ a.trigger = TriggerKind.everyCycles.code) →
        exec (.writePlanEntry .director tag a) s = .next (replied .director 0x38#8 tag .badField [] s))
    ∧ (∀ mode last : Nat, 2 ≤ mode ∨ 64 ≤ last →
        exec (.setPlanMode .director tag mode last) s = .next (replied .director 0x39#8 tag .badField [] s))
    ∧ (∀ z n : Int,
        let z' := clampInt 0 1000000 z
        let n' := clampInt 1 2000000 n
        exec (.setSurveySettings .director tag z n) s
          = .next (replied .director 0x3A#8 tag
              (okOr (decide (z < 0 ∨ 1000000 < z ∨ n < 1 ∨ 2000000 < n))) (i32 z' ++ i32 n')
              (s.updSve fun v => { v with zeroWindow := z', minSpan := n' })))

/-- R95, R96, R98 to R101, R103 to R105: the walk of the plan.  START PLAN closes a set that stands open, opens one
with the next number and makes its entry current; CONTINUE PLAN after END_MARK or CHAIN_BROKEN, and EXTEND PLAN with
another index after END_LAST, move on to the next index, opening a set where none is open, or find the chain broken;
CONTINUE PLAN after ABORTED makes the aborted entry current again.  An entry that becomes current waits with its
trigger's progress; an IMMEDIATE one with a live gauge collects at once on its group's list.  START PLAN of an index
outside 0..63 or of a free entry, once the engine's state allows it, and EXTEND PLAN of an index outside 0..63 are
refused BAD_FIELD.  That a set left open in OFF is closed by START PLAN too is log 45, and that EXTEND PLAN moves on
from a current entry that is itself the new last index log 44. -/
def Obligations.WalkingMakesTheEntryCurrent : Prop :=
  ∀ (tag : Byte) (s : State), Accepts .director s → s.sve.endless = false →
    let becomes (t : State) (v : Sve) : Prop := t = { s with sve := v, lki := t.lki }
    (∀ (i : Fin 64) (e : PlanEntry), (s.sve.state = .off ∨ s.sve.state = .held) → s.entry i = some e →
      let closed : Table 64 (Option PlanEntry) :=
        match s.sve.openSet with
        | some { first := some f, lastDone := some l } =>
            s.sve.plan.set f ((s.entry f).map fun x => { x with setLast := some l })
        | _ => s.sve.plan
      let opened : Sve := setOpened { s.sve with plan := closed }
      (Waits s e → ∃ t, exec (.startPlan .director tag i.val) s = .next t ∧ becomes t (madeCurrent s i e opened))
      ∧ (∀ g m j, e.trigger = .immediate → e.kind ≠ .range → 1 ≤ e.scans →
          (e.kind = .zero → s.asa.pm.natAbs ≤ s.sve.zeroWindow) →
          g ∈ s.ssu.groups.get e.group → (s.gauge g).mapping = some (m, j) → (s.module m).silent = false →
          let deaf (h : Fin 256) : Bool :=
            match (s.gauge h).mapping with
            | none => true
            | some (k, _) => (s.module k).silent
          let c : Collection :=
            { kind := e.kind, group := e.group, scans := e.scans
              gauges := (s.ssu.groups.get e.group).map fun h =>
                { gauge := h, arrivals := if deaf h then e.scans else 0, valid := 0, sum := 0, hi := none, lo := none,
                  spoiled := false }
              start := s.tmb.hall, periods := 0, pmSum := 0, pmHi := none, pmLo := none, refused := false }
          ∃ t, exec (.startPlan .director tag i.val) s = .next t
            ∧ becomes t { madeCurrent s i e opened with state := .collecting, collector := some c }))
    ∧ (∀ i : Nat, (s.sve.state = .off ∨ s.sve.state = .held) → (∀ j : Fin 64, j.val = i → s.entry j = none) →
        exec (.startPlan .director tag i) s = .next (replied .director 0x3B#8 tag .badField [] s))
    ∧ (∀ i : Nat, 64 ≤ i →
        exec (.extendPlan .director tag i) s = .next (replied .director 0x3D#8 tag .badField [] s))
    ∧ (∀ i : Nat, s.sve.state ≠ .off → s.sve.state ≠ .held →
        exec (.startPlan .director tag i) s = .next (replied .director 0x3B#8 tag .wrongState [] s))
    ∧ (∀ (i : Fin 64) (e : PlanEntry), s.sve.state = .held → s.sve.current = some i → s.entry i = some e →
        ((∀ n, s.entry e.next = some n → Waits s n) →
          (s.sve.heldReason = some .endMark ∨ s.sve.heldReason = some .chainBroken →
            ∃ t, exec (.continuePlan .director tag) s = .next t ∧ becomes t (movedOn s e.next s.sve))
          ∧ (∀ j : Fin 64, s.sve.heldReason = some .endLast → j ≠ s.sve.lastIndex →
              ∃ t, exec (.extendPlan .director tag j.val) s = .next t
                ∧ becomes t (movedOn s e.next { s.sve with lastIndex := j })))
        ∧ (s.sve.heldReason = some .aborted → Waits s e →
            ∃ t, exec (.continuePlan .director tag) s = .next t ∧ becomes t (madeCurrent s i e s.sve)))
    ∧ (s.sve.state ≠ .held ∨ s.sve.heldReason = some .endLast →
        exec (.continuePlan .director tag) s = .next (replied .director 0x3C#8 tag .wrongState [] s))
    ∧ (∀ j : Fin 64, (s.sve.state ≠ .held ∨ s.sve.heldReason ≠ some .endLast ∨ j = s.sve.lastIndex) →
        exec (.extendPlan .director tag j.val) s
          = .next (replied .director 0x3D#8 tag .ok (u8 s.sve.state.code)
              (s.updSve fun v => { v with lastIndex := j })))

/-- R99, R110 to R112, R125: STOP PLAN ends the plan from any state but OFF.  A current entry that is COLLECTING or
STALLED completes ABORTED, and a stalled record is discarded: it leaves the stall list and the STORE claim is judged
anew.  The open set closes, its first entry taking set-last from the entry last completed in it.  The engine is OFF.
In OFF the request only answers.  RELEASE SET frees the complete entries of the set's span that carry the number its
first entry carries, and replies their count, whose width is log 13; where the first entry carries no number, those
without one are freed (log 40).  It is refused BAD_FIELD for an entry that is not complete with set-last, and BUSY where
the entry at work lies in the span.  CLEAR PLAN frees every entry in
OFF and is refused elsewhere. -/
def Obligations.StopReleaseAndClearPlan : Prop :=
  ∀ (tag : Byte) (s : State), Accepts .director s →
    (s.sve.state = .off → exec (.stopPlan .director tag) s = .next (replied .director 0x3E#8 tag .ok [] s))
    ∧ (s.sve.state ≠ .off →
        let ends (i : Fin 64) : Prop :=
          s.sve.current = some i ∧ (s.sve.state = .collecting ∨ s.sve.state = .stalled)
        let aborted (i : Fin 64) : Option PlanEntry :=
          if ends i then
            (s.entry i).map fun e =>
              { e with complete := true, result := some .aborted, setNo := none, setLast := none }
          else s.entry i
        let first? : Option (Fin 64) := s.sve.openSet.bind fun o => o.first
        let last? : Option (Fin 64) := s.sve.openSet.bind fun o => o.lastDone
        let discards := s.sve.current ≠ none ∧ s.sve.state = .stalled
        let stalls := if discards then s.cst.stalls.filter (fun w => decide (w ≠ .plan)) else s.cst.stalls
        ∃ t, exec (.stopPlan .director tag) s = .next t
          ∧ (∀ i : Fin 64, t.entry i =
              if first? = some i ∧ last? ≠ none then (aborted i).map fun e => { e with setLast := last? }
              else aborted i)
          ∧ t = { s with
                sve := { s.sve with
                  plan := t.sve.plan, state := .off, current := none, heldReason := none, trigger := .untriggered
                  openSet := none, collector := none, stalledRec := none }
                cst := { s.cst with stalls := stalls }
                lsq :=
                  if discards then storeKept (decide (s.cst.low < fill s ∨ stalls ≠ [])) s.lsq else s.lsq
                lki := t.lki })
    ∧ (∀ (f last : Fin 64) (e : PlanEntry), s.entry f = some e → e.complete = true → e.setLast = some last →
        let span := spanFrom s last 64 f
        let freed (j : Fin 64) : Prop := j ∈ span ∧ inSet s e.setNo j = true
        let atWork := s.sve.state = .waiting ∨ s.sve.state = .collecting ∨ s.sve.state = .stalled
        let blocked := atWork ∧ ∃ c, s.sve.current = some c ∧ c ∈ span
        (blocked → exec (.releaseSet .director tag f.val) s = .next (replied .director 0x3F#8 tag .busy [] s))
        ∧ (¬ blocked →
            ∃ t, exec (.releaseSet .director tag f.val) s
                  = .next (replied .director 0x3F#8 tag .ok (u8 ((allFin 64).filter fun j => decide (freed j)).length) t)
              ∧ (∀ j : Fin 64, t.entry j = if freed j then none else s.entry j)
              ∧ t = { s with
                    sve :=
                      if s.sve.state = .held ∧ ∃ c, s.sve.current = some c ∧ freed c then
                        { s.sve with plan := t.sve.plan, state := .off, current := none, heldReason := none }
                      else { s.sve with plan := t.sve.plan } }))
    ∧ (∀ f : Nat,
        (∀ (j : Fin 64) (e : PlanEntry), j.val = f → s.entry j = some e → e.complete = false ∨ e.setLast = none) →
        exec (.releaseSet .director tag f) s = .next (replied .director 0x3F#8 tag .badField [] s))
    ∧ (s.sve.state = .off →
        exec (.clearPlan .director tag) s
          = .next (replied .director 0x40#8 tag .ok [] (s.updSve fun v => { v with plan := Table.fill 64 none })))
    ∧ (s.sve.state ≠ .off →
        exec (.clearPlan .director tag) s = .next (replied .director 0x40#8 tag .wrongState [] s))

/-- R113, R114, R191: an accepted SURVEY NOW takes a deferred slot with its deadline and joins the demand queue with no
reply; with the queue empty its collection starts at once; with no slot free it is refused BUSY, and with four requests
waiting FULL.  The slot taken is the lowest free one (log 19). -/
def Obligations.SurveyNowIsDeferred : Prop :=
  (∀ (l : Link) (tag : Byte) (g : Fin 32) (scans : Nat) (s : State), Accepts l s →
    (∀ slot, (s.link l).slots.get slot ≠ .free) →
      exec (.surveyNow l tag g.val scans) s = .next (replied l 0x41#8 tag .busy [] s))
  ∧ ∀ (l : Link) (tag : Byte) (g : Fin 32) (scans : Nat) (slot : Fin 2) (s : State), Accepts l s →
    (s.link l).slots.get slot = .free → (∀ j, j < slot → (s.link l).slots.get j ≠ .free) →
    let a := clampNat 1 256 scans
    let r : DemandReq := { link := l, tag := tag, group := g, scans := a, slot := slot, replied := false }
    let taken : Slot :=
      .waiting 0x41#8 tag (decide (scans < 1 ∨ 256 < scans)) ((s.tmb.hall + 100 * s.lki.timeout) % 4294967296)
    let u := (s.updLink l fun k => { k with slots := k.slots.set slot taken }).updSve fun v =>
      { v with demand := v.demand ++ [r] }
    (s.sve.demand ≠ [] → s.sve.demand.length < 4 →
      exec (.surveyNow l tag g.val scans) s = .next (service u))
    ∧ (4 ≤ s.sve.demand.length →
        exec (.surveyNow l tag g.val scans) s = .next (replied l 0x41#8 tag .full [] s))
    ∧ (∀ h m j, s.sve.demand = [] → h ∈ s.ssu.groups.get g → (s.gauge h).mapping = some (m, j) →
        (s.module m).silent = false →
        ∃ c : Collection, c.kind = .static ∧ c.group = g ∧ c.scans = a ∧ c.start = s.tmb.hall
          ∧ c.gauges.map (fun x => x.gauge) = s.ssu.groups.get g
          ∧ exec (.surveyNow l tag g.val scans) s
              = .next (service (u.updSve fun v => { v with work := .collecting c })))

/-- R101, R103, R104, R107: at the period at which a triggered entry's settle count reaches its settle, its collection
starts on the group's list as it stands.  A cycle's completion tests an EVERY_CYCLES entry's target against the total
reported; once triggered, its RANGE collection starts at the period at which the next rising half opens a window, and
has that period's load.  Each goes on unless the period moves PRU.  The rows SETTLE_EXPIRY and CYCLE_COMPLETION are
those periods (log 3). -/
def Obligations.TriggersStartTheCollection : Prop :=
  (∀ (i : Fin 64) (e : PlanEntry) (g : Fin 256) (m j : Fin 16) (s : State),
    s.sve.endless = false → s.sve.state = .waiting → s.sve.current = some i → s.entry i = some e →
    e.kind = .static → 1 ≤ e.scans → s.sve.demand = [] → s.sve.work = .idle →
    g ∈ s.ssu.groups.get e.group → (s.gauge g).mapping = some (m, j) → ((timeStage s).module m).silent = false →
    bringsSettleExpiry s = true →
    ∃ t, exec .settleExpiry s = .next t
      ∧ (t.pru.state = s.pru.state →
          t.sve.state = .collecting
          ∧ ∃ c, t.sve.collector = some c ∧ c.kind = e.kind ∧ c.scans = e.scans ∧ c.start = t.tmb.hall
              ∧ c.gauges.map (fun x => x.gauge) = s.ssu.groups.get e.group))
  ∧ (∀ (i : Fin 64) (e : PlanEntry) (target base : Nat) (s : State),
    s.sve.endless = false → s.sve.state = .waiting → s.sve.current = some i → s.entry i = some e →
    s.sve.trigger = .target target base false → bringsCycleCompletion s = true → s.cau.window ≠ none →
    ∃ t, exec .cycleCompletion s = .next t
      ∧ t.sve.state = .waiting ∧ t.sve.current = some i
      ∧ (target ≤ t.cau.total → t.sve.trigger = .target target base true)
      ∧ (t.cau.total < target → t.cau.total ≤ base → t.cau.total < 4294967295 →
          t.sve.trigger = .target e.interval 0 (decide (e.interval ≤ t.cau.total)))
      ∧ (t.cau.total < target → (base < t.cau.total ∨ 4294967295 ≤ t.cau.total) →
          t.sve.trigger = .target target base false))
  ∧ ∀ (i : Fin 64) (e : PlanEntry) (target base : Nat) (r : Running) (valley peak : Int) (half count : Nat)
      (stiff : Bool) (s : State),
    s.sve.endless = false → s.sve.state = .waiting → s.sve.current = some i → s.entry i = some e → e.kind = .range →
    s.sve.trigger = .target target base true → s.sve.demand = [] → s.sve.work = .idle →
    AtWork s.lsq r → r.seg = .cycle valley peak half count stiff → r.half = none → r.nextRising = true →
    ∃ t, exec .servoPeriodExpiry s = .next t
      ∧ (t.pru.state = s.pru.state →
          t.sve.state = .collecting
          ∧ t.sve.collector = some
              { kind := .range, group := e.group, scans := e.scans
                gauges := (s.ssu.groups.get e.group).map fun g =>
                  { gauge := g, arrivals := 0, valid := 0, sum := 0, hi := none, lo := none, spoiled := false }
                start := t.tmb.hall, periods := 1, pmSum := t.asa.pm, pmHi := some t.asa.pm, pmLo := some t.asa.pm,
                refused := false })

/-- R104, R108, R114, R119, R120, R123, R192: the scan that is the last a demand collection waits for enters its SURVEY
record with the next number and the hall time; the request leaves the queue, and its reply is OK with the record
number.  With no room in the store, and unless the scan moves PRU, the collector keeps the record STALLED, the request
and its slot wait on, the stall list takes the collector and the STORE claim is placed.  The row is that scan arrival
(log 3). -/
def Obligations.DemandCollectionEndsInItsRecord : Prop :=
  ∀ (m : Nat) (inputs : List RatioIn) (r : DemandReq) (c : Collection) (kind tag : Byte) (clamped : Bool) (d : Nat)
    (s : State),
    PlanQuiet s → s.sve.demand = [r] → r.replied = false → s.sve.work = .collecting c → c.kind = .static →
    (s.link r.link).slots.get r.slot = .waiting kind tag clamped d → scanEndsCollection m inputs s = true →
    ∃ t b, exec (.collectionEnd m inputs) s = .next t
      ∧ b.source = .demand r.link r.tag ∧ b.kind = .static ∧ b.group = c.group ∧ b.stop = s.tmb.hall
      ∧ (fill s < 256 → otherCount s < 252 →
          ∃ rest, t.sve.demand = [] ∧ t.sve.work = .idle
            ∧ t.cst.records =
                s.cst.records ++ { number := s.cst.nextNo, stamp := s.tmb.hall, body := .survey b } :: rest
            ∧ let f := replyFrame kind tag (okOr clamped) (u32 s.cst.nextNo)
              ((t.link r.link).slots.get r.slot = .ready f
                ∨ ((t.link r.link).slots.get r.slot = .free
                    ∧ (f ∈ (t.link r.link).replies ∨ (t.link r.link).tx = some f))))
      ∧ ((256 ≤ fill s ∨ 252 ≤ otherCount s) → t.pru.state = s.pru.state →
          t.sve = { s.sve with work := .stalled b }
          ∧ t.cst = { s.cst with stalls := s.cst.stalls ++ [.demand] }
          ∧ t.lsq = storePlaced s.lsq
          ∧ (t.link r.link).slots.get r.slot = .waiting kind tag clamped d)

/-- R83, R84, R97, R98, R104 to R109, R119, R120, R123: the scan that is the last the plan's ZERO, STATIC, REF_LOW or
REF_HIGH collection waits for gives each gauge its average, hands zeros, low points and high points over, and enters
the SURVEY record; a ZERO that finds the load above the zero window completes REFUSED_LOADED with no record; a RANGE
collection ends at its cycle's completion with its extremes.  The entry completes with its result and set number and
joins the open set, which its set-end mark closes, the first entry taking set-last; the engine is HELD with END_MARK by
the hold mark in MARK mode, with END_LAST at the last-entry index in LAST mode, and else moves on to the next index, where
an entry waits, a new set opening where none is open, or finds the chain broken (`entryCompleted`).  With no room in the store, and unless the event
moves PRU, the engine keeps the record STALLED with its entry as it was, the stall list takes the plan collector and
the STORE claim is placed, which pauses the program.  The rows COLLECTION_END and CYCLE_COMPLETION are that scan
arrival and that period (log 3). -/
def Obligations.PlanCollectionEndsInItsRecord : Prop :=
  let noRoom (s : State) : Prop := 256 ≤ fill s ∨ 252 ≤ otherCount s
  let stalled (b : RecordBody) (s t : State) : Prop :=
    t.sve = { s.sve with state := .stalled, collector := none, stalledRec := some b }
    ∧ t.cst = { s.cst with stalls := s.cst.stalls ++ [.plan] }
  (∀ (m : Nat) (inputs : List RatioIn) (i : Fin 64) (e : PlanEntry) (c : Collection) (s : State),
    s.sve.endless = false → s.sve.state = .collecting → s.sve.current = some i → s.entry i = some e →
    GoesOnQuietly s i e → s.sve.collector = some c → c.kind ≠ .range → c.refused = false →
    (c.gauges.map fun x => x.gauge).Nodup → s.sve.demand = [] → s.sve.work = .idle →
    scanEndsCollection m inputs s = true →
    let taken (x : CollGauge) : CollGauge :=
      let g := s.gauge x.gauge
      match g.mapping.bind fun a => if a.1.val = m then inputs[a.2.val]? else none with
      | none => x
      | some r =>
          if c.scans ≤ x.arrivals then x
          else if r.overRange = true ∨ 8000000 < r.ratio.natAbs then { x with arrivals := x.arrivals + 1 }
          else
            { x with
              arrivals := x.arrivals + 1, valid := x.valid + 1
              sum := x.sum +
                (if c.kind = .zero then r.ratio else roundDiv (10 * g.bridge * (r.ratio - g.zero)) g.gfm) }
    let average (x : CollGauge) : Option Int :=
      let y := taken x
      if x.spoiled = false ∧ (c.scans + 1) / 2 ≤ y.valid then some (roundDiv y.sum y.valid) else none
    let load : Int := if c.periods = 0 then s.asa.pm else roundDiv c.pmSum c.periods
    let outcome (g : Fin 256) (a : Int) : RefOutcome :=
      match (s.gauge g).ref with
      | .lowSet p ε =>
          if s.sve.minSpan ≤ (load - p).natAbs then .formed (roundDiv ((a - ε) * 65536) (load - p)) else .spanShort
      | _ => .notLowSet
    ∃ t b, exec (.collectionEnd m inputs) s = .next t
      ∧ (¬ noRoom s →
          let v := entryCompleted s i e b.result s.sve
          (v.state = .held ∨ t.pru.state = s.pru.state → t.sve = v)
          ∧ ∃ rest, t.cst.records =
              s.cst.records ++ { number := s.cst.nextNo, stamp := s.tmb.hall, body := .survey b } :: rest)
      ∧ (noRoom s → t.pru.state = s.pru.state → stalled (.survey b) s t ∧ t.lsq = storePlaced s.lsq)
      ∧ b.source = .plan i s.sve.setCounter ∧ b.kind = c.kind ∧ b.group = c.group ∧ b.scans = c.scans
      ∧ b.start = c.start ∧ b.stop = s.tmb.hall ∧ b.periods = c.periods ∧ b.pmAvg = load
      ∧ b.gauges = (c.gauges.map fun x =>
          { gauge := x.gauge, valid := (taken x).valid, average := average x, devFlag := (t.gauge x.gauge).devFlag
            lowHanded := decide (c.kind = .refLow) && (average x).isSome
            outcome := if c.kind = .refHigh then (average x).map (outcome x.gauge) else none
            extra :=
              match c.kind, (average x).map (outcome x.gauge) with
              | .zero, _ => (t.gauge x.gauge).zero
              | .refHigh, some (.formed slope) => slope
              | _, _ => 0 })
      ∧ (let noneFormed := c.kind = .refHigh
            ∧ ∀ x ∈ b.gauges, x.outcome = none ∨ x.outcome = some .spanShort ∨ x.outcome = some .notLowSet
         b.result =
          if noneFormed then .spanShort else if ∃ x ∈ b.gauges, x.average = none then .donePartial else .done)
      ∧ (∀ x ∈ c.gauges, ∀ a, average x = some a →
          (c.kind = .zero → (t.gauge x.gauge).zero = a
            ∧ (a ≠ (s.gauge x.gauge).zero → (t.gauge x.gauge).ref = .none ∧ (t.gauge x.gauge).validity = .noneYet))
          ∧ (c.kind = .refLow → (s.gauge x.gauge).mapping ≠ none →
              (t.gauge x.gauge).ref = .lowSet load a ∧ (t.gauge x.gauge).devHolds = false)
          ∧ (∀ p ε slope, c.kind = .refHigh → (s.gauge x.gauge).ref = .lowSet p ε →
              outcome x.gauge a = .formed slope → (t.gauge x.gauge).ref = .valid p ε slope))
      ∧ (∀ g : Fin 256, (c.kind = .static ∨ ∀ x ∈ c.gauges, x.gauge = g → average x = none) →
          (t.gauge g).ref = (s.gauge g).ref ∧ (t.gauge g).zero = (s.gauge g).zero))
  ∧ (∀ (tag : Byte) (i : Fin 64) (e : PlanEntry) (s : State), Accepts .director s →
    s.sve.endless = false → s.sve.state = .off → s.sve.openSet = none → s.entry i = some e → e.trigger = .immediate →
    e.kind = .zero → s.sve.zeroWindow < s.asa.pm.natAbs → GoesOnQuietly s i e →
    ∃ t, exec (.startPlan .director tag i.val) s = .next t
      ∧ t = { s with
            sve := entryCompleted s i e .refusedLoaded { setOpened s.sve with current := some i }, lki := t.lki })
  ∧ ∀ (i : Fin 64) (e : PlanEntry) (c : Collection) (target base : Nat) (triggered : Bool) (s : State),
    s.sve.endless = false → s.sve.state = .collecting → s.sve.current = some i → s.entry i = some e →
    GoesOnQuietly s i e → s.sve.collector = some c → c.kind = .range → c.refused = false →
    s.sve.trigger = .target target base triggered → s.sve.demand = [] → s.sve.work = .idle →
    bringsCycleCompletion s = true → s.cau.window ≠ none →
    ∃ t, exec .cycleCompletion s = .next t
      ∧ (t.pru.state = s.pru.state →
          ∃ b,
            (¬ noRoom s →
              t.sve = entryCompleted { s with cau := t.cau } i e b.result s.sve
              ∧ ∃ rest, t.cst.records =
                  s.cst.records ++ { number := s.cst.nextNo, stamp := t.tmb.hall, body := .range b } :: rest)
            ∧ (noRoom s →
                stalled (.range b) s t ∧ t.lsq.claims = { s.lsq.claims with store := true }
                ∧ (s.lsq.claims.store = false → t.lsq.state = .paused .running ∨ t.lsq.state = .done))
            ∧ b = { source := .plan i s.sve.setCounter, group := c.group, start := c.start, stop := t.tmb.hall,
                    periods := c.periods + 1, total := t.cau.total
                    pmHi := max t.asa.pm (c.pmHi.getD t.asa.pm), pmLo := min t.asa.pm (c.pmLo.getD t.asa.pm)
                    result := if ∃ x ∈ c.gauges, x.hi = none then .donePartial else .done
                    gauges := c.gauges.map fun x =>
                      { gauge := x.gauge, valid := x.valid, hi := x.hi, lo := x.lo,
                        devFlag := (s.gauge x.gauge).devFlag } })

/-! ### The capture store (06) -/

/-- R97 to R99, R109, R114, R120, R124 to R126, R128, R129: a removal that makes room, by RELEASE STORE or CLEAR STORE,
lets the stalled records in, in the order of the stall list and while there is room, each with the next number, at the
back.  A demand survey whose record enters is
answered OK with that number and leaves the queue; a plan entry whose record enters completes with its result, and the
engine stops or moves on to an entry that waits (`entryCompleted`).  A record that finds no room stays first in the list.  The notice is armed and disarmed by the marks, and the STORE claim stands on only above the low mark or
with a record stalled.  The row STALLED_RECORD_ENTRY is that RELEASE STORE of the Director (log 3). -/
def Obligations.StalledRecordEntersAtARelease : Prop :=
  ∀ (tag : Byte) (n : Nat) (c : Instr) (left : List Record) (s : State), Accepts .director s → s.sve.endless = false →
    ((c = .stalledRecordEntry tag n ∨ c = .releaseStore .director tag n) ∧ releaseAdmits n s = true
        ∧ left = s.cst.records.dropWhile (fun x => decide (x.number ≤ n))
      ∨ c = .clearStore .director tag ∧ left = []) →
    let others := left.countP fun x => match x.body with | .snapshot _ => false | _ => true
    let roomForTwo := left.length + 1 < 256 ∧ others + 1 < 252
    let second := nextRecordNo s.cst.nextNo
    let record (no : Nat) (b : RecordBody) : Record := { number := no, stamp := s.tmb.hall, body := b }
    let enter (bodies : List RecordBody) (stay : List Collector) (v : Sve) (also : State → Prop) : Prop :=
      ∃ t, exec c s = .next t ∧ also t
        ∧ t = { s with
              sve := v
              cst := { s.cst with
                records := left ++ List.zipWith record [s.cst.nextNo, second] bodies
                nextNo := Nat.iterate nextRecordNo bodies.length s.cst.nextNo
                stalls := stay
                armed := (s.cst.armed || decide (left.length ≤ s.cst.low))
                  && decide (left.length + bodies.length < s.cst.high) }
              lsq := storeKept (decide (s.cst.low < left.length + bodies.length ∨ stay ≠ [])) s.lsq
              lki := t.lki }
    let demandIs (r : DemandReq) (b : SurveyBody) : Prop := s.sve.demand = [r] ∧ s.sve.work = .stalled b
    let demandDone (v : Sve) : Sve := { v with demand := [], work := .idle }
    let answered (no : Nat) (r : DemandReq) (t : State) : Prop :=
      ∀ kind rtag clamped d, r.replied = false → (s.link r.link).slots.get r.slot = .waiting kind rtag clamped d →
        let f := replyFrame kind rtag (okOr clamped) (u32 no)
        ((t.link r.link).slots.get r.slot = .ready f
          ∨ ((t.link r.link).slots.get r.slot = .free
              ∧ (f ∈ (t.link r.link).replies ∨ (t.link r.link).tx = some f)))
    let planIs (i : Fin 64) (e : PlanEntry) (b : RecordBody) (res : EntryResult) : Prop :=
      s.sve.state = .stalled ∧ s.sve.current = some i ∧ s.entry i = some e ∧ GoesOnQuietly s i e
      ∧ s.sve.stalledRec = some b
      ∧ ((∃ x, b = .survey x ∧ x.result = res) ∨ ∃ x, b = .range x ∧ x.result = res)
    (∀ r b, demandIs r b → s.cst.stalls = [.demand] →
      enter [.survey b] [] (demandDone s.sve) (answered s.cst.nextNo r))
    ∧ (∀ i e b res, planIs i e b res → s.cst.stalls = [.plan] →
        enter [b] [] (entryCompleted s i e res s.sve) fun _ => True)
    ∧ ∀ r b i e b' res, demandIs r b → planIs i e b' res →
        let both := demandDone (entryCompleted s i e res s.sve)
        (s.cst.stalls = [.demand, .plan] →
          (roomForTwo → enter [.survey b, b'] [] both (answered s.cst.nextNo r))
          ∧ (¬ roomForTwo → enter [.survey b] [.plan] (demandDone s.sve) (answered s.cst.nextNo r)))
        ∧ (s.cst.stalls = [.plan, .demand] →
            (roomForTwo → enter [b', .survey b] [] both (answered second r))
            ∧ (¬ roomForTwo → enter [b'] [.demand] (entryCompleted s i e res s.sve) fun _ => True))

/-- R25, R124 to R126, R128, R129, R131: where no record is stalled, or the first of them finds no room, RELEASE STORE drops the
oldest records numbered up to n and leaves the stall list; with none stalled CLEAR STORE drops all and keeps the
numbering; SET STORE MARKS clamps the high mark first, whatever is stalled.  Each arms the notice at or below the low
mark and keeps the STORE claim only above it or with a record stalled; where that was the last claim, a PAUSED sequencer
returns to its resume state.  The stalled records that a removal lets in are the statement before this one. -/
def Obligations.StoreRequestsRemoveAndMark : Prop :=
  ∀ (tag : Byte) (s : State), Accepts .director s → s.sve.endless = false →
    let stalled := s.cst.stalls ≠ []
    let left (records : List Record) (t : State) : Prop :=
      t = { s with
            cst := { s.cst with records := records,
                                armed := s.cst.armed || decide (records.length ≤ s.cst.low) }
            lsq := storeKept (decide (s.cst.low < records.length ∨ stalled)) s.lsq, lki := t.lki }
    (∀ n,
      let records := s.cst.records.dropWhile fun x => decide (x.number ≤ n)
      (stalled → StallsNamed s ∧ releaseAdmits n s = false) →
      ∃ t, exec (.releaseStore .director tag n) s = .next t ∧ left records t)
    ∧ (¬ stalled → ∃ t, exec (.clearStore .director tag) s = .next t ∧ left [] t)
    ∧ ∀ h l,
        let high := clampNat 2 252 h
        let low := clampNat 0 (high - 1) l
        let armed := s.cst.armed || decide (fill s ≤ low)
        ∃ t, exec (.setStoreMarks .director tag h l) s = .next t
          ∧ t = { s with
                  cst := { s.cst with high := high, low := low, armed := armed && decide (fill s < high) }
                  lsq := storeKept (decide (low < fill s ∨ stalled)) s.lsq, lki := t.lki }

/-- R127: READ STORE returns whole records from the front of the list, at most k, as many as the payload of 1,024
bytes takes, and changes nothing; a count of 0 is refused BAD_FIELD; the Panel may read the store and not release it.
-/
def Obligations.ReadStoreReturnsTheOldestRecordsWhole : Prop :=
  ∀ (l : Link) (tag : Byte) (s : State), Accepts l s →
    (∀ k, 1 ≤ k → k ≤ 255 →
      ∃ n, n ≤ k ∧ n ≤ s.cst.records.length ∧
        let content := u16 (fill s) ++ u32 s.cst.nextNo ++ u8 n ++ ((s.cst.records.take n).map encRecord).flatten
        exec (.readStore l tag k) s = .next (replied l 0x48#8 tag .ok content s)
        ∧ content.length + 1 ≤ 1024
        ∧ (n = k ∨ n = s.cst.records.length
            ∨ ∃ r, s.cst.records[n]? = some r ∧ 1024 < content.length + 1 + (encRecord r).length))
    ∧ exec (.readStore l tag 0) s = .next (replied l 0x48#8 tag .badField [] s)
    ∧ (l = .panel → s.sve.endless = false → ∀ n,
        exec (.releaseStore l tag n) s = .next (replied l 0x49#8 tag .denied [] s))

/-! ### The crack monitor (07) -/

/-- R136, R137, R150: a loop sample ends the front-end's silence and debounces each USED loop; a loop that breaks is
latched and active in CRACK_LOOP, and one that mends is no longer active. -/
def Obligations.LoopSampleDebouncesTheLoops : Prop :=
  ∀ (opens : List Bool) (s : State), opens.length = 32 →
    ∃ t, exec (.loopSample opens) s = .next t
      ∧ t.ckm.feSilent = false ∧ t.ckm.feLast = s.tmb.hall ∧ t.ckm.chans = s.ckm.chans
      ∧ ∀ (i : Fin 32) (o : Bool), opens[i.val]? = some o →
          let l := s.loop i
          (t.loop i).last = some o
          ∧ (l.used = false → t.loop i = { l with last := some o })
          ∧ (l.used = true → o = l.broken → t.loop i = { l with last := some o, count := 0 })
          ∧ (l.used = true → o ≠ l.broken → l.count + 1 < l.debounce →
              t.loop i = { l with last := some o, count := l.count + 1 })
          ∧ (l.used = true → o ≠ l.broken → l.debounce ≤ l.count + 1 →
              t.loop i = { l with last := some o, count := 0, broken := o }
              ∧ (o = true → i.val ∈ (t.cause .crackLoop).latched ∧ i.val ∈ (t.cause .crackLoop).active)
              ∧ (o = false → i.val ∉ (t.cause .crackLoop).active))

/-- R141, R142, R144, R150: a window report of a USED channel ends its silence, takes the oldest count out of the sum
and the new one in; at the warning threshold the caution flag is on, and at the alarm threshold AE_ALARM is active.  A
report of an UNUSED channel is only timed. -/
def Obligations.WindowReportJudgesTheChannel : Prop :=
  ∀ (i : Fin 8) (hits : Nat) (s : State),
    ∃ t, exec (.windowReport i.val hits) s = .next t
      ∧ (∀ j, j ≠ i → t.chan j = s.chan j)
      ∧ ((s.chan i).used = false → t.chan i = { s.chan i with last := s.tmb.hall } ∧ t.ckm.caution = s.ckm.caution)
      ∧ ((s.chan i).used = true →
          let c := s.chan i
          let sum := c.sum - c.ring.headD 0 + hits
          t.chan i = { c with last := s.tmb.hall, silent := false, ring := c.ring.tail ++ [hits], sum := sum,
                              aeAlarm := decide (c.alarm ≤ sum) }
          ∧ t.ckm.caution = (s.ckm.caution || decide (c.warn ≤ sum))
          ∧ (s.ckm.caution = false → c.warn ≤ sum → t.ckm.cautionAt = some s.tmb.hall)
          ∧ (c.aeAlarm = false → c.alarm ≤ sum →
              i.val ∈ (t.cause .aeAlarm).latched ∧ i.val ∈ (t.cause .aeAlarm).active)
          ∧ (c.aeAlarm = true → sum < c.alarm → i.val ∉ (t.cause .aeAlarm).active))

/-- R134, R135, R140, R142, R144, R145, R150, R153, R157: SET LOOP and SET AE CHANNEL store their settings and reply the
record as stored (its bytes: log 13), a change of use (or of a channel's window) starting the loop or the ring afresh and
ending what held; a loop, channel, use or break level that does not exist is refused BAD_FIELD.  A changed break level of
a loop that an ENABLED CRACK_LOOP has latched moves PRU at once by the level then demanded.  Changed settings of a USED
channel judge its sum at once: caution at the warning threshold, AE_ALARM started or ended at the alarm threshold.  CLEAR
CAUTION turns the flag off unless a USED channel stands at its warning threshold. -/
def Obligations.CrackRequestsWrite : Prop :=
  ∀ (tag : Byte) (s : State), Accepts .director s →
    let moved (t : State) : PState := (moveFor s.pru.state (demandedLevel t)).getD s.pru.state
    let onlyMonitor (t : State) : Prop :=
      t = { s with ckm := t.ckm, pru := { s.pru with causes := t.pru.causes }, lki := t.lki }
    (∀ (i : Fin 32) (u : Bool) (b : Nat) (lv : Level), lv ≠ .none →
      let old := s.loop i
      let b' := clampNat 1 255 b
      let judged := i.val ∈ (s.cause .crackLoop).latched ∧ (s.cause .crackLoop).masked = false ∧ lv ≠ old.level
      ∃ t, exec (.setLoop .director tag i.val u.toNat b lv.code) s
            = .next (replied .director 0x50#8 tag (okOr (decide (b' ≠ b)))
                (u8 i.val ++ flag u ++ flag (t.loop i).broken ++ u8 b' ++ u8 lv.code ++ u8 (t.loop i).count
                  ++ u8? (old.last.map Bool.toNat)) t)
        ∧ (∀ j, j ≠ i → t.loop j = s.loop j)
        ∧ t.loop i =
            (if u = old.used then { old with debounce := b', level := lv }
             else { old with used := u, debounce := b', level := lv, broken := false, count := 0 })
        ∧ t.ckm = { s.ckm with loops := t.ckm.loops, feSilent := s.ckm.feSilent && frontendInUse t }
        ∧ CausesEnd (fun k x =>
            (k = .crackLoop ∧ x = i.val ∧ old.broken = true ∧ u ≠ old.used)
            ∨ (k = .frontendSilent ∧ x = 24 ∧ s.ckm.feSilent = true ∧ frontendInUse t = false)) s t
        ∧ (judged → lv.rank ≤ (demandedLevel t).rank ∧ t.pru.state = moved t)
        ∧ (¬ judged ∨ moved t = s.pru.state → onlyMonitor t))
    ∧ (∀ loop use b level : Nat, 32 ≤ loop ∨ 2 ≤ use ∨ level = 0 ∨ 5 ≤ level →
        exec (.setLoop .director tag loop use b level) s = .next (replied .director 0x50#8 tag .badField [] s))
    ∧ (∀ (i : Fin 8) (u : Bool) (w warn alarm : Nat),
        let old := s.chan i
        let w' := clampNat 1 64 w
        let a := clampNat 1 4194240 alarm
        let l := clampNat 1 a warn
        let afresh := u ≠ old.used ∨ w' ≠ old.window
        let sum := if afresh then 0 else old.sum
        let judged := u = true ∧ (afresh ∨ l ≠ old.warn ∨ a ≠ old.alarm)
        let above :=
          if judged then decide (a ≤ sum) else if afresh then false else old.aeAlarm
        let new : Channel :=
          { used := u, window := w', warn := l, alarm := a,
            ring := if afresh then List.replicate w' 0 else old.ring, sum := sum,
            silent := if afresh then u && old.silent else old.silent, last := old.last, aeAlarm := above }
        let starts := above = true ∧ old.aeAlarm = false
        ∃ t, exec (.setAeChannel .director tag i.val u.toNat w warn alarm) s
              = .next (replied .director 0x51#8 tag (okOr (decide (w' ≠ w ∨ a ≠ alarm ∨ l ≠ warn)))
                  (u8 i.val ++ flag u ++ u8 w' ++ u32 l ++ u32 a ++ u32 sum ++ flag new.silent ++ u32 old.last
                    ++ flag above) t)
          ∧ (∀ j, j ≠ i → t.chan j = s.chan j) ∧ t.chan i = new
          ∧ t.ckm =
              { s.ckm with
                chans := t.ckm.chans, caution := s.ckm.caution || (decide judged && decide (l ≤ sum))
                cautionAt :=
                  if judged ∧ l ≤ sum ∧ s.ckm.caution = false then some s.tmb.hall else s.ckm.cautionAt }
          ∧ (starts →
              i.val ∈ (t.cause .aeAlarm).latched ∧ i.val ∈ (t.cause .aeAlarm).active
              ∧ (∀ k, k ≠ .aeAlarm → t.cause k = s.cause k)
              ∧ ((s.cause .aeAlarm).masked = false → t.pru.state = moved t))
          ∧ (¬ starts ∨ (s.cause .aeAlarm).masked = true ∨ moved t = s.pru.state → onlyMonitor t)
          ∧ (¬ starts →
              CausesEnd (fun k x =>
                (k = .aeAlarm ∧ x = i.val ∧ old.aeAlarm = true ∧ above = false)
                ∨ (k = .frontendSilent ∧ x = 16 + i.val ∧ old.silent = true ∧ new.silent = false)) s t))
    ∧ (∀ chan use w warn alarm : Nat, 8 ≤ chan ∨ 2 ≤ use →
        exec (.setAeChannel .director tag chan use w warn alarm) s
          = .next (replied .director 0x51#8 tag .badField [] s))
    ∧ (channelsAbove s = [] →
        ∃ t, exec (.clearCaution .director tag) s = .next (replied .director 0x53#8 tag .ok [] t)
          ∧ t = { s with ckm := { s.ckm with caution := false }, lki := t.lki }
          ∧ (s.ckm.caution = false → t = s))
    ∧ (channelsAbove s ≠ [] →
        exec (.clearCaution .director tag) s
          = .next (replied .director 0x53#8 tag .causeLatched (bitmap 1 (channelsAbove s)) s))

/-! ### Protection (08) -/

/-- R39, R48, R150, R152, R157, R161, R165: the line's change to ASSERTED latches ESTOP and, from any state but SAFE
and DUMPED, dumps the hydraulics at once and offers a snapshot; its change to CLEAR ends ESTOP's active part and
nothing else of the protection.  A change of the line to the level it already has is no change (log 21). -/
def Obligations.EmergencyStopDumpsTheHydraulics : Prop :=
  ∀ s : State,
    (s.pins.estop = false → (s.cause .estop).level = some .dump → (s.cause .estop).masked = false →
      ∃ t, exec .estopAsserted s = .next t
        ∧ t.pins.estop = true ∧ 0 ∈ (t.cause .estop).latched ∧ 0 ∈ (t.cause .estop).active
        ∧ (s.pru.state = .safe → t.pru.state = .safe)
        ∧ (s.pru.state ≠ .safe → s.pru.state ≠ .dumped →
            t.pru.state = .dumped ∧ t.pru.entered = s.tmb.hall ∧ t.asa.isolation = false
            ∧ t.lsq.state = .stopped ∧ t.lsq.claims.protection = false ∧ t.cau.window = none
            ∧ (∀ i : Fin 8, (t.act i).valve = 0 ∧ (t.act i).integral = 0 ∧ (t.act i).setpoint = none
                ∧ (t.act i).unload = none)
            ∧ (fill s < 256 → s.sve.demand.length ≤ 1 →
                ∃ old r b, t.cst.records = old ++ [r] ∧ r.body = .snapshot b ∧ b.entered = .dumped
                ∧ b.left = s.pru.state ∧ b.line = true)))
    ∧ (s.pins.estop = true →
        ∃ t, exec .estopClear s = .next t
          ∧ t.pins.estop = false ∧ 0 ∉ (t.cause .estop).active
          ∧ (t.cause .estop).latched = (s.cause .estop).latched
          ∧ t = { s with pins := { s.pins with estop := false }, pru := { s.pru with causes := t.pru.causes },
                         lki := t.lki })

/-- R25, R26, R49, R58, R97, R110, R115, R155, R158, R159, R165: a SET CAUSE that gives a latched cause a higher level
moves PRU at once.  Into HOLDING from ARMED: the PROTECTION claim is placed and the sequencer pauses.  Into UNLOADING
from ARMED or HOLDING: that claim goes, the sequencer saves its restart position and becomes UNLOADING, each ENABLED
actuator's unload value starts from its setpoint, the cycle window closes, and the survey at work is aborted.  Each
offers its SNAPSHOT after these effects.  An actuator without a setpoint, which no run shows, unloads from 0 (log 24);
a program given up keeps no running copy (log 22); cycles done are saved where a CYCLE stands at the position (log 18);
that the SNAPSHOT's P is that of the P_fine just seeded, between ARM and the next period, is the model's choice (log 57).
-/
def Obligations.HoldAndUnloadEntriesMoveTheOtherBlocks : Prop :=
  ∀ (tag : Byte) (k : CauseKind) (lv : Level) (s : State), Accepts .director s →
    k ≠ .crackLoop → allowedLevel k lv = true → (s.cause k).latched ≠ [] →
    let u := s.updCause k fun c => { c with level := some lv, masked := false }
    let snapshot (p : PState) (t : State) : Prop :=
      (fill s < 256 →
        ∃ b, t.cst.records = s.cst.records ++ [{ number := s.cst.nextNo, stamp := s.tmb.hall, body := .snapshot b }]
          ∧ b.entered = p ∧ b.left = s.pru.state ∧ b.demand = demandedLevel u ∧ b.caution = s.ckm.caution
          ∧ b.seq = t.lsq.state ∧ b.index = s.lsq.pos.index ∧ b.claims = t.lsq.claims ∧ b.line = s.pins.estop
          ∧ b.load = roundDiv s.lsq.pFine 1024 ∧ b.pm = s.asa.pm ∧ b.total = s.cau.total)
      ∧ (256 ≤ fill s → t.cst.records = s.cst.records)
      ∧ t.cst =
          if fill s < 256 then
            { s.cst with records := t.cst.records, nextNo := nextRecordNo s.cst.nextNo, stalls := t.cst.stalls
                         armed := s.cst.armed && decide (fill s + 1 < s.cst.high) }
          else { s.cst with stalls := t.cst.stalls }
    let entered (p : PState) : Pru := { u.pru with state := p, entered := s.tmb.hall }
    (s.pru.state = .armed → demandedLevel u = .hold →
      ∃ t, exec (.setCause .director tag k.code lv.code 0) s = .next t
        ∧ t.lsq = { s.lsq with
            claims := { s.lsq.claims with protection := true }
            state := match s.lsq.state with
              | .aligning => .paused .aligning | .running => .paused .running | .gated => .paused .gated | x => x }
        ∧ snapshot .holding t ∧ t.cst.stalls = s.cst.stalls
        ∧ t = { s with pru := entered .holding, lsq := t.lsq, cst := t.cst, lki := t.lki })
    ∧ ((s.pru.state = .armed ∨ s.pru.state = .holding) → demandedLevel u = .unload → s.sve.demand.length ≤ 1 →
      let under := s.lsq.state = .aligning ∨ s.lsq.state = .running ∨ s.lsq.state = .gated ∨ isPaused s = true
      let cycleHere : Bool :=
        match s.lsq.running with
        | some r => r.seg.isCycle
        | none => (s.lsq.prog[s.lsq.pos.index]?).any (fun e => e.seg.isCycle)
      let planAtWork := s.sve.state = .collecting ∨ s.sve.state = .stalled
        ∨ (s.sve.state = .waiting ∧ ∃ gate n, s.sve.trigger = .segment gate n)
      ∃ t, exec (.setCause .director tag k.code lv.code 0) s = .next t
        ∧ t.lsq = { s.lsq with
            state := .unloading, running := none, consentPanel := false, consentDirector := false
            claims := { s.lsq.claims with protection := false, store := t.lsq.claims.store }
            restart :=
              if under then
                some { index := s.lsq.pos.index, cycles := if cycleHere then some s.lsq.pos.cyclesDone else none }
              else s.lsq.restart }
        ∧ (s.sve.state ≠ .stalled → demandStalled s.sve = false → t.lsq.claims.store = s.lsq.claims.store)
        ∧ (∀ i : Fin 8, t.act i =
            if (s.act i).cfg.enabled then
              { s.act i with unload := some ((s.act i).setpoint.getD 0 * 1024), arrived := false }
            else s.act i)
        ∧ (¬ planAtWork →
            t.sve = { s.sve with demand := t.sve.demand, work := t.sve.work })
        ∧ (∀ i e, planAtWork → s.sve.current = some i → s.entry i = some e →
            t.sve = { s.sve with
              plan := s.sve.plan.set i
                (some { e with complete := true, result := some .aborted, setNo := none, setLast := none })
              state := .held, heldReason := some .aborted, trigger := .untriggered, collector := none, stalledRec := none
              demand := t.sve.demand, work := t.sve.work })
        ∧ (s.sve.state ≠ .stalled → s.sve.work = .idle → t.cst.stalls = s.cst.stalls)
        ∧ (s.sve.work = .idle → t.sve.demand = s.sve.demand ∧ t.sve.work = .idle)
        ∧ (∀ r kind rtag clamped d, s.sve.work ≠ .idle → s.sve.demand = [r] → r.replied = false →
            (s.link r.link).slots.get r.slot = .waiting kind rtag clamped d →
            t.sve.demand = [] ∧ t.sve.work = .idle
            ∧ let f : FrameOut := { kind := kind + 0x80#8, tag := rtag, payload := [15#8] }
              ((t.link r.link).slots.get r.slot = .ready f
                ∨ ((t.link r.link).slots.get r.slot = .free
                    ∧ (f ∈ (t.link r.link).replies ∨ (t.link r.link).tx = some f))))
        ∧ snapshot .unloading t
        ∧ t = { s with pru := entered .unloading, lsq := t.lsq, asa := { s.asa with acts := t.asa.acts },
                       cau := { s.cau with window := none }, sve := t.sve, cst := t.cst, lki := t.lki })

/-- R155, R168: SET CAUSE stores a level and mask its kind allows, which moves nothing where the cause is not latched,
and refuses others BAD_FIELD; TAKE ALARMS removes every latched subject that is not active, a cause left with none
losing its stamp, and clears the deviation flag of each gauge it removes. -/
def Obligations.CauseRequestsSetAndTake : Prop :=
  ∀ (tag : Byte) (s : State), Accepts .director s →
    (∀ (k : CauseKind) (lv : Level) (m : Bool),
      let stores (level : Option Level) : Prop :=
        ∃ t, exec (.setCause .director tag k.code lv.code m.toNat) s = .next t
          ∧ t.cause k = { s.cause k with level := level, masked := m }
          ∧ (∀ j, j ≠ k → t.cause j = s.cause j)
          ∧ ((s.cause k).latched = [] → t = { s with pru := { s.pru with causes := t.pru.causes }, lki := t.lki })
      ((m = true → maskable k = true) → k ≠ .crackLoop → allowedLevel k lv = true → stores (some lv))
      ∧ (k = .crackLoop → stores none)
      ∧ ((k ≠ .crackLoop ∧ allowedLevel k lv = false) ∨ (m = true ∧ maskable k = false) →
          exec (.setCause .director tag k.code lv.code m.toNat) s
            = .next (replied .director 0x58#8 tag .badField [] s)))
    ∧ (DemandMet s →
        ∃ t, exec (.takeAlarms .director tag) s = .next t
          ∧ t = { s with pru := { s.pru with causes := t.pru.causes }, ssu := { s.ssu with gauges := t.ssu.gauges },
                         lki := t.lki }
          ∧ (∀ k : CauseKind,
              let stay := (s.cause k).latched.filter fun x => (s.cause k).active.contains x
              t.cause k =
                { s.cause k with latched := stay, stamp := if stay = [] then none else (s.cause k).stamp })
          ∧ (∀ g : Fin 256, t.gauge g =
              { s.gauge g with devFlag :=
                  (s.gauge g).devFlag && !((s.cause .deviation).latched.contains g.val
                    && !(s.cause .deviation).active.contains g.val) }))

/-- R42, R48, R162, R163: ARM from SAFE or DUMPED, the line CLEAR and no level above NOTIFY demanded, energizes the
isolation output and seeds the array on the held forces; RESUME ALARM from HOLDING or UNLOADED makes PRU ARMED and
removes the PROTECTION claim.  In any other protection state each is refused WRONG_STATE; ARM is refused ESTOP_ACTIVE
with the line ASSERTED; and each is refused CAUSE_LATCHED where the level stands against it.  A refusal carries the
demanded level and the latched causes, and changes nothing. -/
def Obligations.ArmAndResumeAlarm : Prop :=
  ∀ (tag : Byte) (s : State), Accepts .director s →
    let calm := (demandedLevel s).rank ≤ 1
    ((s.pru.state = .safe ∨ s.pru.state = .dumped) → s.pins.estop = false → calm →
      ∃ t, exec (.arm .director tag) s = .next t
        ∧ t.pru = { s.pru with state := .armed, entered := s.tmb.hall }
        ∧ t = { s with pru := t.pru, lsq := t.lsq, asa := { s.asa with acts := t.asa.acts, isolation := true },
                       lki := t.lki }
        ∧ t.lsq = { s.lsq with pFine := clampInt (-1000000) 1000000 s.asa.pm * 1024 }
        ∧ ∀ i : Fin 8, (s.act i).cfg.enabled = true →
            (t.act i).integral = 0
            ∧ (t.act i).setpoint = some (clampInt (s.act i).cfg.fmin (s.act i).cfg.fmax (s.act i).force)
            ∧ roundDiv (t.lsq.pFine * (s.act i).cfg.share + (t.act i).offset * 1000) 1024000 = (s.act i).force)
    ∧ ((s.pru.state = .safe ∨ s.pru.state = .dumped) → s.pins.estop = true →
        exec (.arm .director tag) s = .next (replied .director 0x59#8 tag .estopActive (blockers s) s))
    ∧ ((s.pru.state = .safe ∨ s.pru.state = .dumped) → s.pins.estop = false → ¬ calm →
        exec (.arm .director tag) s = .next (replied .director 0x59#8 tag .causeLatched (blockers s) s))
    ∧ ((s.pru.state = .holding ∨ s.pru.state = .unloaded) → calm →
        ∃ t, exec (.resumeAlarm .director tag) s = .next t
          ∧ t.pru = { s.pru with state := .armed, entered := s.tmb.hall }
          ∧ t.lsq.claims = { s.lsq.claims with protection := false }
          ∧ t = { s with pru := t.pru, lsq := t.lsq, lki := t.lki }
          ∧ (∀ r, s.lsq.state = .paused r → t.lsq.claims.any = false → t.lsq.state = r.state)
          ∧ (isPaused s = false ∨ t.lsq.claims.any = true → t.lsq.state = s.lsq.state))
    ∧ (s.pru.state ≠ .safe → s.pru.state ≠ .dumped →
        exec (.arm .director tag) s = .next (replied .director 0x59#8 tag .wrongState (blockers s) s))
    ∧ (s.pru.state ≠ .holding → s.pru.state ≠ .unloaded →
        exec (.resumeAlarm .director tag) s = .next (replied .director 0x5A#8 tag .wrongState (blockers s) s))
    ∧ ((s.pru.state = .holding ∨ s.pru.state = .unloaded) → ¬ calm →
        exec (.resumeAlarm .director tag) s = .next (replied .director 0x5A#8 tag .causeLatched (blockers s) s))

/-- R148, R150, R156, R168: no command but TAKE ALARMS (or a reset, or a character that completes a request's frame)
removes a latched subject; none but ARM and RESUME ALARM (or those) lowers PRU's state, and none but ARM (or those)
leaves SAFE. -/
def Obligations.OnlyTheHostStandsTheProtectionDown : Prop :=
  ∀ (c : Instr) (s t : State), exec c s = .next t → mayReset c = false → mayCarryRequest c = false →
    ((∀ l tag, c ≠ .takeAlarms l tag) →
      ∀ (k : CauseKind) (x : Nat), x ∈ (s.cause k).latched → x ∈ (t.cause k).latched)
    ∧ ((∀ l tag, c ≠ .arm l tag) → (∀ l tag, c ≠ .resumeAlarm l tag) →
        s.pru.state.severity ≤ t.pru.state.severity)
    ∧ ((∀ l tag, c ≠ .arm l tag) → s.pru.state = .safe → t.pru.state = .safe)

/-! ### What every step keeps -/

/-- R39, R40, R46 to R49: every step keeps the hydraulics safe.  What the invariant says stands at `HydraulicsSafe`.
-/
def Obligations.StepKeepsTheHydraulicsSafe : Prop :=
  ∀ s t : State, HydraulicsSafe s → step s = .next t → HydraulicsSafe t

/-- R24 to R26, R156 to R161: every step keeps the sequencer under supervision. -/
def Obligations.StepKeepsTheSequencerSupervised : Prop :=
  ∀ s t : State, Supervised s → step s = .next t → Supervised t

/-- R154, R157: after every step PRU stands at least where the demanded level calls for. -/
def Obligations.StepKeepsTheDemandMet : Prop :=
  ∀ s t : State, DemandMet s → step s = .next t → DemandMet t

/-- R119, R120, R123, R125, R126: every step keeps the store's bounds, numbering, notice and claim, and the stall list
names exactly the collectors that hold a stalled record. -/
def Obligations.StepKeepsTheStoreSound : Prop :=
  ∀ s t : State, StoreSound s → step s = .next t → StoreSound t

/-- R176, R179, R184, R187, R192: every step keeps both links' queues within their places. -/
def Obligations.StepKeepsTheLinksSound : Prop :=
  ∀ s t : State, LinksSound s → step s = .next t → LinksSound t

/-- R148 to R150: every step keeps the cause table sound and its active parts equal to the conditions that hold. -/
def Obligations.StepKeepsTheCausesTrue : Prop :=
  ∀ s t : State, CausesSound s → ConditionsShown s → step s = .next t → CausesSound t ∧ ConditionsShown t

/-- R56, R61, R76 to R78, R82, R86, R104, R139, R142, R145: every step keeps the channels, the gauge map, the groups,
and the cycle counters and window sound. -/
def Obligations.StepKeepsTheMonitorsSound : Prop :=
  ∀ s t : State, CrackSound s → GaugesSound s → GroupsSound s → CountersSound s → step s = .next t →
    CrackSound t ∧ GaugesSound t ∧ GroupsSound t ∧ CountersSound t

/-- The state right after reset meets every invariant that a step keeps. -/
def Obligations.ResetMeetsTheInvariants : Prop :=
  let s := State.reset
  HydraulicsSafe s ∧ Supervised s ∧ DemandMet s ∧ StoreSound s ∧ LinksSound s ∧ CausesSound s ∧ ConditionsShown s
  ∧ CrackSound s ∧ GaugesSound s ∧ GroupsSound s ∧ CountersSound s
end

