-- ==== Sys2Proof/Laws/State.lean ====
section
/-! SUPPORT. What each named update of the state does to each field: one lemma per field per update, so that no later proof
unfolds a record update.  And the laws of the tables that hold numbered records. -/

namespace Sys2Proof

/-! ### Tables -/

@[simp] theorem Table.get_fill (n : Nat) {α : Type} (x : α) (i : Fin n) : (Table.fill n x).get i = x := by
  simp [Table.fill, Table.get]

theorem Table.get_set {n : Nat} {α : Type} (t : Table n α) (i j : Fin n) (x : α) :
    (t.set i x).get j = if j = i then x else t.get j := by
  rcases eq_or_ne j i with rfl | h
  · simp [Table.set, Table.get]
  · have h' : i.val ≠ j.val := fun e => h (Fin.ext e.symm)
    simp [Table.set, Table.get, h, h']

@[simp] theorem Table.get_set_self {n : Nat} {α : Type} (t : Table n α) (i : Fin n) (x : α) :
    (t.set i x).get i = x := by simp [Table.get_set]

theorem Table.get_set_ne {n : Nat} {α : Type} (t : Table n α) {i j : Fin n} (h : j ≠ i) (x : α) :
    (t.set i x).get j = t.get j := by simp [Table.get_set, h]

theorem Table.get_modify {n : Nat} {α : Type} (t : Table n α) (i j : Fin n) (f : α → α) :
    (t.modify i f).get j = if j = i then f (t.get j) else t.get j := by
  unfold Table.modify
  rw [Table.get_set]
  split
  · subst_vars; rfl
  · rfl

@[simp] theorem Table.get_modify_self {n : Nat} {α : Type} (t : Table n α) (i : Fin n) (f : α → α) :
    (t.modify i f).get i = f (t.get i) := by simp [Table.get_modify]

theorem Table.get_modify_ne {n : Nat} {α : Type} (t : Table n α) {i j : Fin n} (h : j ≠ i) (f : α → α) :
    (t.modify i f).get j = t.get j := by simp [Table.get_modify, h]

@[simp] theorem Table.get_map {n : Nat} {α β : Type} (f : α → β) (t : Table n α) (i : Fin n) :
    (t.map f).get i = f (t.get i) := by simp [Table.map, Table.get]

@[simp] theorem Table.get_mapIdx {n : Nat} {α β : Type} (f : Nat → α → β) (t : Table n α) (i : Fin n) :
    (t.mapIdx f).get i = f i.val (t.get i) := by simp [Table.mapIdx, Table.get]

/-- Every cell is some numbered record. -/
theorem Table.mem_cells {n : Nat} {α : Type} (t : Table n α) (x : α) :
    x ∈ t.cells ↔ ∃ i : Fin n, t.get i = x := by
  constructor
  · intro h
    obtain ⟨i, hi, rfl⟩ := List.getElem_of_mem h
    exact ⟨⟨i, by simpa [t.size_eq] using hi⟩, rfl⟩
  · rintro ⟨i, rfl⟩
    exact List.getElem_mem _

theorem Table.ext_get {n : Nat} {α : Type} {t u : Table n α} (h : ∀ i, t.get i = u.get i) : t = u := by
  obtain ⟨a, ha⟩ := t
  obtain ⟨b, hb⟩ := u
  have : a = b := by
    apply List.ext_getElem (by rw [ha, hb])
    intro i h1 h2
    exact h ⟨i, by rw [← ha]; exact h1⟩
  subst this
  rfl

namespace Machine

/-! ### Block by block -/

@[simp] theorem State.updTmb_tmb (s : State) (f : Tmb → Tmb) : (s.updTmb f).tmb = f s.tmb := rfl
@[simp] theorem State.updTmb_lsq (s : State) (f : Tmb → Tmb) : (s.updTmb f).lsq = s.lsq := rfl
@[simp] theorem State.updTmb_asa (s : State) (f : Tmb → Tmb) : (s.updTmb f).asa = s.asa := rfl
@[simp] theorem State.updTmb_cau (s : State) (f : Tmb → Tmb) : (s.updTmb f).cau = s.cau := rfl
@[simp] theorem State.updTmb_ssu (s : State) (f : Tmb → Tmb) : (s.updTmb f).ssu = s.ssu := rfl
@[simp] theorem State.updTmb_sve (s : State) (f : Tmb → Tmb) : (s.updTmb f).sve = s.sve := rfl
@[simp] theorem State.updTmb_cst (s : State) (f : Tmb → Tmb) : (s.updTmb f).cst = s.cst := rfl
@[simp] theorem State.updTmb_ckm (s : State) (f : Tmb → Tmb) : (s.updTmb f).ckm = s.ckm := rfl
@[simp] theorem State.updTmb_pru (s : State) (f : Tmb → Tmb) : (s.updTmb f).pru = s.pru := rfl
@[simp] theorem State.updTmb_lki (s : State) (f : Tmb → Tmb) : (s.updTmb f).lki = s.lki := rfl
@[simp] theorem State.updTmb_pins (s : State) (f : Tmb → Tmb) : (s.updTmb f).pins = s.pins := rfl
@[simp] theorem State.updTmb_pending (s : State) (f : Tmb → Tmb) : (s.updTmb f).pending = s.pending := rfl
@[simp] theorem State.updTmb_updTmb (s : State) (f g : Tmb → Tmb) :
    (s.updTmb f).updTmb g = s.updTmb (fun x => g (f x)) := rfl

@[simp] theorem State.updLsq_tmb (s : State) (f : Lsq → Lsq) : (s.updLsq f).tmb = s.tmb := rfl
@[simp] theorem State.updLsq_lsq (s : State) (f : Lsq → Lsq) : (s.updLsq f).lsq = f s.lsq := rfl
@[simp] theorem State.updLsq_asa (s : State) (f : Lsq → Lsq) : (s.updLsq f).asa = s.asa := rfl
@[simp] theorem State.updLsq_cau (s : State) (f : Lsq → Lsq) : (s.updLsq f).cau = s.cau := rfl
@[simp] theorem State.updLsq_ssu (s : State) (f : Lsq → Lsq) : (s.updLsq f).ssu = s.ssu := rfl
@[simp] theorem State.updLsq_sve (s : State) (f : Lsq → Lsq) : (s.updLsq f).sve = s.sve := rfl
@[simp] theorem State.updLsq_cst (s : State) (f : Lsq → Lsq) : (s.updLsq f).cst = s.cst := rfl
@[simp] theorem State.updLsq_ckm (s : State) (f : Lsq → Lsq) : (s.updLsq f).ckm = s.ckm := rfl
@[simp] theorem State.updLsq_pru (s : State) (f : Lsq → Lsq) : (s.updLsq f).pru = s.pru := rfl
@[simp] theorem State.updLsq_lki (s : State) (f : Lsq → Lsq) : (s.updLsq f).lki = s.lki := rfl
@[simp] theorem State.updLsq_pins (s : State) (f : Lsq → Lsq) : (s.updLsq f).pins = s.pins := rfl
@[simp] theorem State.updLsq_pending (s : State) (f : Lsq → Lsq) : (s.updLsq f).pending = s.pending := rfl
@[simp] theorem State.updLsq_updLsq (s : State) (f g : Lsq → Lsq) :
    (s.updLsq f).updLsq g = s.updLsq (fun x => g (f x)) := rfl

@[simp] theorem State.updAsa_tmb (s : State) (f : Asa → Asa) : (s.updAsa f).tmb = s.tmb := rfl
@[simp] theorem State.updAsa_lsq (s : State) (f : Asa → Asa) : (s.updAsa f).lsq = s.lsq := rfl
@[simp] theorem State.updAsa_asa (s : State) (f : Asa → Asa) : (s.updAsa f).asa = f s.asa := rfl
@[simp] theorem State.updAsa_cau (s : State) (f : Asa → Asa) : (s.updAsa f).cau = s.cau := rfl
@[simp] theorem State.updAsa_ssu (s : State) (f : Asa → Asa) : (s.updAsa f).ssu = s.ssu := rfl
@[simp] theorem State.updAsa_sve (s : State) (f : Asa → Asa) : (s.updAsa f).sve = s.sve := rfl
@[simp] theorem State.updAsa_cst (s : State) (f : Asa → Asa) : (s.updAsa f).cst = s.cst := rfl
@[simp] theorem State.updAsa_ckm (s : State) (f : Asa → Asa) : (s.updAsa f).ckm = s.ckm := rfl
@[simp] theorem State.updAsa_pru (s : State) (f : Asa → Asa) : (s.updAsa f).pru = s.pru := rfl
@[simp] theorem State.updAsa_lki (s : State) (f : Asa → Asa) : (s.updAsa f).lki = s.lki := rfl
@[simp] theorem State.updAsa_pins (s : State) (f : Asa → Asa) : (s.updAsa f).pins = s.pins := rfl
@[simp] theorem State.updAsa_pending (s : State) (f : Asa → Asa) : (s.updAsa f).pending = s.pending := rfl
@[simp] theorem State.updAsa_updAsa (s : State) (f g : Asa → Asa) :
    (s.updAsa f).updAsa g = s.updAsa (fun x => g (f x)) := rfl

@[simp] theorem State.updCau_tmb (s : State) (f : Cau → Cau) : (s.updCau f).tmb = s.tmb := rfl
@[simp] theorem State.updCau_lsq (s : State) (f : Cau → Cau) : (s.updCau f).lsq = s.lsq := rfl
@[simp] theorem State.updCau_asa (s : State) (f : Cau → Cau) : (s.updCau f).asa = s.asa := rfl
@[simp] theorem State.updCau_cau (s : State) (f : Cau → Cau) : (s.updCau f).cau = f s.cau := rfl
@[simp] theorem State.updCau_ssu (s : State) (f : Cau → Cau) : (s.updCau f).ssu = s.ssu := rfl
@[simp] theorem State.updCau_sve (s : State) (f : Cau → Cau) : (s.updCau f).sve = s.sve := rfl
@[simp] theorem State.updCau_cst (s : State) (f : Cau → Cau) : (s.updCau f).cst = s.cst := rfl
@[simp] theorem State.updCau_ckm (s : State) (f : Cau → Cau) : (s.updCau f).ckm = s.ckm := rfl
@[simp] theorem State.updCau_pru (s : State) (f : Cau → Cau) : (s.updCau f).pru = s.pru := rfl
@[simp] theorem State.updCau_lki (s : State) (f : Cau → Cau) : (s.updCau f).lki = s.lki := rfl
@[simp] theorem State.updCau_pins (s : State) (f : Cau → Cau) : (s.updCau f).pins = s.pins := rfl
@[simp] theorem State.updCau_pending (s : State) (f : Cau → Cau) : (s.updCau f).pending = s.pending := rfl
@[simp] theorem State.updCau_updCau (s : State) (f g : Cau → Cau) :
    (s.updCau f).updCau g = s.updCau (fun x => g (f x)) := rfl

@[simp] theorem State.updSsu_tmb (s : State) (f : Ssu → Ssu) : (s.updSsu f).tmb = s.tmb := rfl
@[simp] theorem State.updSsu_lsq (s : State) (f : Ssu → Ssu) : (s.updSsu f).lsq = s.lsq := rfl
@[simp] theorem State.updSsu_asa (s : State) (f : Ssu → Ssu) : (s.updSsu f).asa = s.asa := rfl
@[simp] theorem State.updSsu_cau (s : State) (f : Ssu → Ssu) : (s.updSsu f).cau = s.cau := rfl
@[simp] theorem State.updSsu_ssu (s : State) (f : Ssu → Ssu) : (s.updSsu f).ssu = f s.ssu := rfl
@[simp] theorem State.updSsu_sve (s : State) (f : Ssu → Ssu) : (s.updSsu f).sve = s.sve := rfl
@[simp] theorem State.updSsu_cst (s : State) (f : Ssu → Ssu) : (s.updSsu f).cst = s.cst := rfl
@[simp] theorem State.updSsu_ckm (s : State) (f : Ssu → Ssu) : (s.updSsu f).ckm = s.ckm := rfl
@[simp] theorem State.updSsu_pru (s : State) (f : Ssu → Ssu) : (s.updSsu f).pru = s.pru := rfl
@[simp] theorem State.updSsu_lki (s : State) (f : Ssu → Ssu) : (s.updSsu f).lki = s.lki := rfl
@[simp] theorem State.updSsu_pins (s : State) (f : Ssu → Ssu) : (s.updSsu f).pins = s.pins := rfl
@[simp] theorem State.updSsu_pending (s : State) (f : Ssu → Ssu) : (s.updSsu f).pending = s.pending := rfl
@[simp] theorem State.updSsu_updSsu (s : State) (f g : Ssu → Ssu) :
    (s.updSsu f).updSsu g = s.updSsu (fun x => g (f x)) := rfl

@[simp] theorem State.updSve_tmb (s : State) (f : Sve → Sve) : (s.updSve f).tmb = s.tmb := rfl
@[simp] theorem State.updSve_lsq (s : State) (f : Sve → Sve) : (s.updSve f).lsq = s.lsq := rfl
@[simp] theorem State.updSve_asa (s : State) (f : Sve → Sve) : (s.updSve f).asa = s.asa := rfl
@[simp] theorem State.updSve_cau (s : State) (f : Sve → Sve) : (s.updSve f).cau = s.cau := rfl
@[simp] theorem State.updSve_ssu (s : State) (f : Sve → Sve) : (s.updSve f).ssu = s.ssu := rfl
@[simp] theorem State.updSve_sve (s : State) (f : Sve → Sve) : (s.updSve f).sve = f s.sve := rfl
@[simp] theorem State.updSve_cst (s : State) (f : Sve → Sve) : (s.updSve f).cst = s.cst := rfl
@[simp] theorem State.updSve_ckm (s : State) (f : Sve → Sve) : (s.updSve f).ckm = s.ckm := rfl
@[simp] theorem State.updSve_pru (s : State) (f : Sve → Sve) : (s.updSve f).pru = s.pru := rfl
@[simp] theorem State.updSve_lki (s : State) (f : Sve → Sve) : (s.updSve f).lki = s.lki := rfl
@[simp] theorem State.updSve_pins (s : State) (f : Sve → Sve) : (s.updSve f).pins = s.pins := rfl
@[simp] theorem State.updSve_pending (s : State) (f : Sve → Sve) : (s.updSve f).pending = s.pending := rfl
@[simp] theorem State.updSve_updSve (s : State) (f g : Sve → Sve) :
    (s.updSve f).updSve g = s.updSve (fun x => g (f x)) := rfl

@[simp] theorem State.updCst_tmb (s : State) (f : Cst → Cst) : (s.updCst f).tmb = s.tmb := rfl
@[simp] theorem State.updCst_lsq (s : State) (f : Cst → Cst) : (s.updCst f).lsq = s.lsq := rfl
@[simp] theorem State.updCst_asa (s : State) (f : Cst → Cst) : (s.updCst f).asa = s.asa := rfl
@[simp] theorem State.updCst_cau (s : State) (f : Cst → Cst) : (s.updCst f).cau = s.cau := rfl
@[simp] theorem State.updCst_ssu (s : State) (f : Cst → Cst) : (s.updCst f).ssu = s.ssu := rfl
@[simp] theorem State.updCst_sve (s : State) (f : Cst → Cst) : (s.updCst f).sve = s.sve := rfl
@[simp] theorem State.updCst_cst (s : State) (f : Cst → Cst) : (s.updCst f).cst = f s.cst := rfl
@[simp] theorem State.updCst_ckm (s : State) (f : Cst → Cst) : (s.updCst f).ckm = s.ckm := rfl
@[simp] theorem State.updCst_pru (s : State) (f : Cst → Cst) : (s.updCst f).pru = s.pru := rfl
@[simp] theorem State.updCst_lki (s : State) (f : Cst → Cst) : (s.updCst f).lki = s.lki := rfl
@[simp] theorem State.updCst_pins (s : State) (f : Cst → Cst) : (s.updCst f).pins = s.pins := rfl
@[simp] theorem State.updCst_pending (s : State) (f : Cst → Cst) : (s.updCst f).pending = s.pending := rfl
@[simp] theorem State.updCst_updCst (s : State) (f g : Cst → Cst) :
    (s.updCst f).updCst g = s.updCst (fun x => g (f x)) := rfl

@[simp] theorem State.updCkm_tmb (s : State) (f : Ckm → Ckm) : (s.updCkm f).tmb = s.tmb := rfl
@[simp] theorem State.updCkm_lsq (s : State) (f : Ckm → Ckm) : (s.updCkm f).lsq = s.lsq := rfl
@[simp] theorem State.updCkm_asa (s : State) (f : Ckm → Ckm) : (s.updCkm f).asa = s.asa := rfl
@[simp] theorem State.updCkm_cau (s : State) (f : Ckm → Ckm) : (s.updCkm f).cau = s.cau := rfl
@[simp] theorem State.updCkm_ssu (s : State) (f : Ckm → Ckm) : (s.updCkm f).ssu = s.ssu := rfl
@[simp] theorem State.updCkm_sve (s : State) (f : Ckm → Ckm) : (s.updCkm f).sve = s.sve := rfl
@[simp] theorem State.updCkm_cst (s : State) (f : Ckm → Ckm) : (s.updCkm f).cst = s.cst := rfl
@[simp] theorem State.updCkm_ckm (s : State) (f : Ckm → Ckm) : (s.updCkm f).ckm = f s.ckm := rfl
@[simp] theorem State.updCkm_pru (s : State) (f : Ckm → Ckm) : (s.updCkm f).pru = s.pru := rfl
@[simp] theorem State.updCkm_lki (s : State) (f : Ckm → Ckm) : (s.updCkm f).lki = s.lki := rfl
@[simp] theorem State.updCkm_pins (s : State) (f : Ckm → Ckm) : (s.updCkm f).pins = s.pins := rfl
@[simp] theorem State.updCkm_pending (s : State) (f : Ckm → Ckm) : (s.updCkm f).pending = s.pending := rfl
@[simp] theorem State.updCkm_updCkm (s : State) (f g : Ckm → Ckm) :
    (s.updCkm f).updCkm g = s.updCkm (fun x => g (f x)) := rfl

@[simp] theorem State.updPru_tmb (s : State) (f : Pru → Pru) : (s.updPru f).tmb = s.tmb := rfl
@[simp] theorem State.updPru_lsq (s : State) (f : Pru → Pru) : (s.updPru f).lsq = s.lsq := rfl
@[simp] theorem State.updPru_asa (s : State) (f : Pru → Pru) : (s.updPru f).asa = s.asa := rfl
@[simp] theorem State.updPru_cau (s : State) (f : Pru → Pru) : (s.updPru f).cau = s.cau := rfl
@[simp] theorem State.updPru_ssu (s : State) (f : Pru → Pru) : (s.updPru f).ssu = s.ssu := rfl
@[simp] theorem State.updPru_sve (s : State) (f : Pru → Pru) : (s.updPru f).sve = s.sve := rfl
@[simp] theorem State.updPru_cst (s : State) (f : Pru → Pru) : (s.updPru f).cst = s.cst := rfl
@[simp] theorem State.updPru_ckm (s : State) (f : Pru → Pru) : (s.updPru f).ckm = s.ckm := rfl
@[simp] theorem State.updPru_pru (s : State) (f : Pru → Pru) : (s.updPru f).pru = f s.pru := rfl
@[simp] theorem State.updPru_lki (s : State) (f : Pru → Pru) : (s.updPru f).lki = s.lki := rfl
@[simp] theorem State.updPru_pins (s : State) (f : Pru → Pru) : (s.updPru f).pins = s.pins := rfl
@[simp] theorem State.updPru_pending (s : State) (f : Pru → Pru) : (s.updPru f).pending = s.pending := rfl
@[simp] theorem State.updPru_updPru (s : State) (f g : Pru → Pru) :
    (s.updPru f).updPru g = s.updPru (fun x => g (f x)) := rfl

@[simp] theorem State.updLki_tmb (s : State) (f : Lki → Lki) : (s.updLki f).tmb = s.tmb := rfl
@[simp] theorem State.updLki_lsq (s : State) (f : Lki → Lki) : (s.updLki f).lsq = s.lsq := rfl
@[simp] theorem State.updLki_asa (s : State) (f : Lki → Lki) : (s.updLki f).asa = s.asa := rfl
@[simp] theorem State.updLki_cau (s : State) (f : Lki → Lki) : (s.updLki f).cau = s.cau := rfl
@[simp] theorem State.updLki_ssu (s : State) (f : Lki → Lki) : (s.updLki f).ssu = s.ssu := rfl
@[simp] theorem State.updLki_sve (s : State) (f : Lki → Lki) : (s.updLki f).sve = s.sve := rfl
@[simp] theorem State.updLki_cst (s : State) (f : Lki → Lki) : (s.updLki f).cst = s.cst := rfl
@[simp] theorem State.updLki_ckm (s : State) (f : Lki → Lki) : (s.updLki f).ckm = s.ckm := rfl
@[simp] theorem State.updLki_pru (s : State) (f : Lki → Lki) : (s.updLki f).pru = s.pru := rfl
@[simp] theorem State.updLki_lki (s : State) (f : Lki → Lki) : (s.updLki f).lki = f s.lki := rfl
@[simp] theorem State.updLki_pins (s : State) (f : Lki → Lki) : (s.updLki f).pins = s.pins := rfl
@[simp] theorem State.updLki_pending (s : State) (f : Lki → Lki) : (s.updLki f).pending = s.pending := rfl
@[simp] theorem State.updLki_updLki (s : State) (f g : Lki → Lki) :
    (s.updLki f).updLki g = s.updLki (fun x => g (f x)) := rfl

/-! ### Links -/

@[simp] theorem State.updLink_tmb (s : State) (l : Link) (f : LinkSt → LinkSt) : (s.updLink l f).tmb = s.tmb := rfl
@[simp] theorem State.updLink_lsq (s : State) (l : Link) (f : LinkSt → LinkSt) : (s.updLink l f).lsq = s.lsq := rfl
@[simp] theorem State.updLink_asa (s : State) (l : Link) (f : LinkSt → LinkSt) : (s.updLink l f).asa = s.asa := rfl
@[simp] theorem State.updLink_cau (s : State) (l : Link) (f : LinkSt → LinkSt) : (s.updLink l f).cau = s.cau := rfl
@[simp] theorem State.updLink_ssu (s : State) (l : Link) (f : LinkSt → LinkSt) : (s.updLink l f).ssu = s.ssu := rfl
@[simp] theorem State.updLink_sve (s : State) (l : Link) (f : LinkSt → LinkSt) : (s.updLink l f).sve = s.sve := rfl
@[simp] theorem State.updLink_cst (s : State) (l : Link) (f : LinkSt → LinkSt) : (s.updLink l f).cst = s.cst := rfl
@[simp] theorem State.updLink_ckm (s : State) (l : Link) (f : LinkSt → LinkSt) : (s.updLink l f).ckm = s.ckm := rfl
@[simp] theorem State.updLink_pru (s : State) (l : Link) (f : LinkSt → LinkSt) : (s.updLink l f).pru = s.pru := rfl
@[simp] theorem State.updLink_pins (s : State) (l : Link) (f : LinkSt → LinkSt) : (s.updLink l f).pins = s.pins := rfl
@[simp] theorem State.updLink_pending (s : State) (l : Link) (f : LinkSt → LinkSt) : (s.updLink l f).pending = s.pending := rfl

@[simp] theorem State.updLink_link_self (s : State) (l : Link) (f : LinkSt → LinkSt) :
    (s.updLink l f).link l = f (s.link l) := by cases l <;> rfl

theorem State.updLink_link (s : State) (l m : Link) (f : LinkSt → LinkSt) :
    (s.updLink l f).link m = if m = l then f (s.link m) else s.link m := by cases l <;> cases m <;> rfl

@[simp] theorem State.updLink_director (s : State) (f : LinkSt → LinkSt) :
    (s.updLink .director f).lki.director = f s.lki.director := rfl

@[simp] theorem State.updLink_director_panel (s : State) (f : LinkSt → LinkSt) :
    (s.updLink .director f).lki.panel = s.lki.panel := rfl

@[simp] theorem State.updLink_panel (s : State) (f : LinkSt → LinkSt) :
    (s.updLink .panel f).lki.panel = f s.lki.panel := rfl

@[simp] theorem State.updLink_panel_director (s : State) (f : LinkSt → LinkSt) :
    (s.updLink .panel f).lki.director = s.lki.director := rfl

@[simp] theorem State.updLink_timeout (s : State) (l : Link) (f : LinkSt → LinkSt) :
    (s.updLink l f).lki.timeout = s.lki.timeout := by cases l <;> rfl

@[simp] theorem State.updLink_resetPending (s : State) (l : Link) (f : LinkSt → LinkSt) :
    (s.updLink l f).lki.resetPending = s.lki.resetPending := by cases l <;> rfl

@[simp] theorem State.updLink_rate (s : State) (l : Link) (f : LinkSt → LinkSt) :
    (s.updLink l f).lki.rate = s.lki.rate := by cases l <;> rfl

@[simp] theorem State.updLink_updLink_self (s : State) (l : Link) (f g : LinkSt → LinkSt) :
    (s.updLink l f).updLink l g = s.updLink l (fun k => g (f k)) := by cases l <;> rfl

/-- An update that changes nothing of the link changes nothing. -/
theorem State.updLink_id {s : State} {l : Link} {f : LinkSt → LinkSt} (h : f (s.link l) = s.link l) :
    s.updLink l f = s := by
  cases l <;> simp_all [State.updLink, State.updLki, State.link]

/-! ### Numbered records -/

@[simp] theorem State.updAct_tmb (s : State) (i : Fin 8) (f : Actuator → Actuator) : (s.updAct i f).tmb = s.tmb := rfl
@[simp] theorem State.updAct_lsq (s : State) (i : Fin 8) (f : Actuator → Actuator) : (s.updAct i f).lsq = s.lsq := rfl
@[simp] theorem State.updAct_cau (s : State) (i : Fin 8) (f : Actuator → Actuator) : (s.updAct i f).cau = s.cau := rfl
@[simp] theorem State.updAct_ssu (s : State) (i : Fin 8) (f : Actuator → Actuator) : (s.updAct i f).ssu = s.ssu := rfl
@[simp] theorem State.updAct_sve (s : State) (i : Fin 8) (f : Actuator → Actuator) : (s.updAct i f).sve = s.sve := rfl
@[simp] theorem State.updAct_cst (s : State) (i : Fin 8) (f : Actuator → Actuator) : (s.updAct i f).cst = s.cst := rfl
@[simp] theorem State.updAct_ckm (s : State) (i : Fin 8) (f : Actuator → Actuator) : (s.updAct i f).ckm = s.ckm := rfl
@[simp] theorem State.updAct_pru (s : State) (i : Fin 8) (f : Actuator → Actuator) : (s.updAct i f).pru = s.pru := rfl
@[simp] theorem State.updAct_lki (s : State) (i : Fin 8) (f : Actuator → Actuator) : (s.updAct i f).lki = s.lki := rfl
@[simp] theorem State.updAct_pins (s : State) (i : Fin 8) (f : Actuator → Actuator) : (s.updAct i f).pins = s.pins := rfl
@[simp] theorem State.updAct_pending (s : State) (i : Fin 8) (f : Actuator → Actuator) : (s.updAct i f).pending = s.pending := rfl
theorem State.updAct_act (s : State) (i j : Fin 8) (f : Actuator → Actuator) :
    (s.updAct i f).act j = if j = i then f (s.act j) else s.act j := Table.get_modify _ _ _ _
@[simp] theorem State.updAct_act_self (s : State) (i : Fin 8) (f : Actuator → Actuator) :
    (s.updAct i f).act i = f (s.act i) := Table.get_modify_self _ _ _

@[simp] theorem State.updFrame_tmb (s : State) (i : Fin 4) (f : Frame → Frame) : (s.updFrame i f).tmb = s.tmb := rfl
@[simp] theorem State.updFrame_lsq (s : State) (i : Fin 4) (f : Frame → Frame) : (s.updFrame i f).lsq = s.lsq := rfl
@[simp] theorem State.updFrame_cau (s : State) (i : Fin 4) (f : Frame → Frame) : (s.updFrame i f).cau = s.cau := rfl
@[simp] theorem State.updFrame_ssu (s : State) (i : Fin 4) (f : Frame → Frame) : (s.updFrame i f).ssu = s.ssu := rfl
@[simp] theorem State.updFrame_sve (s : State) (i : Fin 4) (f : Frame → Frame) : (s.updFrame i f).sve = s.sve := rfl
@[simp] theorem State.updFrame_cst (s : State) (i : Fin 4) (f : Frame → Frame) : (s.updFrame i f).cst = s.cst := rfl
@[simp] theorem State.updFrame_ckm (s : State) (i : Fin 4) (f : Frame → Frame) : (s.updFrame i f).ckm = s.ckm := rfl
@[simp] theorem State.updFrame_pru (s : State) (i : Fin 4) (f : Frame → Frame) : (s.updFrame i f).pru = s.pru := rfl
@[simp] theorem State.updFrame_lki (s : State) (i : Fin 4) (f : Frame → Frame) : (s.updFrame i f).lki = s.lki := rfl
@[simp] theorem State.updFrame_pins (s : State) (i : Fin 4) (f : Frame → Frame) : (s.updFrame i f).pins = s.pins := rfl
@[simp] theorem State.updFrame_pending (s : State) (i : Fin 4) (f : Frame → Frame) : (s.updFrame i f).pending = s.pending := rfl
theorem State.updFrame_frame (s : State) (i j : Fin 4) (f : Frame → Frame) :
    (s.updFrame i f).frame j = if j = i then f (s.frame j) else s.frame j := Table.get_modify _ _ _ _
@[simp] theorem State.updFrame_frame_self (s : State) (i : Fin 4) (f : Frame → Frame) :
    (s.updFrame i f).frame i = f (s.frame i) := Table.get_modify_self _ _ _

@[simp] theorem State.updGauge_tmb (s : State) (i : Fin 256) (f : Gauge → Gauge) : (s.updGauge i f).tmb = s.tmb := rfl
@[simp] theorem State.updGauge_lsq (s : State) (i : Fin 256) (f : Gauge → Gauge) : (s.updGauge i f).lsq = s.lsq := rfl
@[simp] theorem State.updGauge_asa (s : State) (i : Fin 256) (f : Gauge → Gauge) : (s.updGauge i f).asa = s.asa := rfl
@[simp] theorem State.updGauge_cau (s : State) (i : Fin 256) (f : Gauge → Gauge) : (s.updGauge i f).cau = s.cau := rfl
@[simp] theorem State.updGauge_sve (s : State) (i : Fin 256) (f : Gauge → Gauge) : (s.updGauge i f).sve = s.sve := rfl
@[simp] theorem State.updGauge_cst (s : State) (i : Fin 256) (f : Gauge → Gauge) : (s.updGauge i f).cst = s.cst := rfl
@[simp] theorem State.updGauge_ckm (s : State) (i : Fin 256) (f : Gauge → Gauge) : (s.updGauge i f).ckm = s.ckm := rfl
@[simp] theorem State.updGauge_pru (s : State) (i : Fin 256) (f : Gauge → Gauge) : (s.updGauge i f).pru = s.pru := rfl
@[simp] theorem State.updGauge_lki (s : State) (i : Fin 256) (f : Gauge → Gauge) : (s.updGauge i f).lki = s.lki := rfl
@[simp] theorem State.updGauge_pins (s : State) (i : Fin 256) (f : Gauge → Gauge) : (s.updGauge i f).pins = s.pins := rfl
@[simp] theorem State.updGauge_pending (s : State) (i : Fin 256) (f : Gauge → Gauge) : (s.updGauge i f).pending = s.pending := rfl
theorem State.updGauge_gauge (s : State) (i j : Fin 256) (f : Gauge → Gauge) :
    (s.updGauge i f).gauge j = if j = i then f (s.gauge j) else s.gauge j := Table.get_modify _ _ _ _
@[simp] theorem State.updGauge_gauge_self (s : State) (i : Fin 256) (f : Gauge → Gauge) :
    (s.updGauge i f).gauge i = f (s.gauge i) := Table.get_modify_self _ _ _

@[simp] theorem State.updModule_tmb (s : State) (i : Fin 16) (f : Module → Module) : (s.updModule i f).tmb = s.tmb := rfl
@[simp] theorem State.updModule_lsq (s : State) (i : Fin 16) (f : Module → Module) : (s.updModule i f).lsq = s.lsq := rfl
@[simp] theorem State.updModule_asa (s : State) (i : Fin 16) (f : Module → Module) : (s.updModule i f).asa = s.asa := rfl
@[simp] theorem State.updModule_cau (s : State) (i : Fin 16) (f : Module → Module) : (s.updModule i f).cau = s.cau := rfl
@[simp] theorem State.updModule_sve (s : State) (i : Fin 16) (f : Module → Module) : (s.updModule i f).sve = s.sve := rfl
@[simp] theorem State.updModule_cst (s : State) (i : Fin 16) (f : Module → Module) : (s.updModule i f).cst = s.cst := rfl
@[simp] theorem State.updModule_ckm (s : State) (i : Fin 16) (f : Module → Module) : (s.updModule i f).ckm = s.ckm := rfl
@[simp] theorem State.updModule_pru (s : State) (i : Fin 16) (f : Module → Module) : (s.updModule i f).pru = s.pru := rfl
@[simp] theorem State.updModule_lki (s : State) (i : Fin 16) (f : Module → Module) : (s.updModule i f).lki = s.lki := rfl
@[simp] theorem State.updModule_pins (s : State) (i : Fin 16) (f : Module → Module) : (s.updModule i f).pins = s.pins := rfl
@[simp] theorem State.updModule_pending (s : State) (i : Fin 16) (f : Module → Module) : (s.updModule i f).pending = s.pending := rfl
theorem State.updModule_module (s : State) (i j : Fin 16) (f : Module → Module) :
    (s.updModule i f).module j = if j = i then f (s.module j) else s.module j := Table.get_modify _ _ _ _
@[simp] theorem State.updModule_module_self (s : State) (i : Fin 16) (f : Module → Module) :
    (s.updModule i f).module i = f (s.module i) := Table.get_modify_self _ _ _

@[simp] theorem State.updLoop_tmb (s : State) (i : Fin 32) (f : LoopRec → LoopRec) : (s.updLoop i f).tmb = s.tmb := rfl
@[simp] theorem State.updLoop_lsq (s : State) (i : Fin 32) (f : LoopRec → LoopRec) : (s.updLoop i f).lsq = s.lsq := rfl
@[simp] theorem State.updLoop_asa (s : State) (i : Fin 32) (f : LoopRec → LoopRec) : (s.updLoop i f).asa = s.asa := rfl
@[simp] theorem State.updLoop_cau (s : State) (i : Fin 32) (f : LoopRec → LoopRec) : (s.updLoop i f).cau = s.cau := rfl
@[simp] theorem State.updLoop_ssu (s : State) (i : Fin 32) (f : LoopRec → LoopRec) : (s.updLoop i f).ssu = s.ssu := rfl
@[simp] theorem State.updLoop_sve (s : State) (i : Fin 32) (f : LoopRec → LoopRec) : (s.updLoop i f).sve = s.sve := rfl
@[simp] theorem State.updLoop_cst (s : State) (i : Fin 32) (f : LoopRec → LoopRec) : (s.updLoop i f).cst = s.cst := rfl
@[simp] theorem State.updLoop_pru (s : State) (i : Fin 32) (f : LoopRec → LoopRec) : (s.updLoop i f).pru = s.pru := rfl
@[simp] theorem State.updLoop_lki (s : State) (i : Fin 32) (f : LoopRec → LoopRec) : (s.updLoop i f).lki = s.lki := rfl
@[simp] theorem State.updLoop_pins (s : State) (i : Fin 32) (f : LoopRec → LoopRec) : (s.updLoop i f).pins = s.pins := rfl
@[simp] theorem State.updLoop_pending (s : State) (i : Fin 32) (f : LoopRec → LoopRec) : (s.updLoop i f).pending = s.pending := rfl
theorem State.updLoop_loop (s : State) (i j : Fin 32) (f : LoopRec → LoopRec) :
    (s.updLoop i f).loop j = if j = i then f (s.loop j) else s.loop j := Table.get_modify _ _ _ _
@[simp] theorem State.updLoop_loop_self (s : State) (i : Fin 32) (f : LoopRec → LoopRec) :
    (s.updLoop i f).loop i = f (s.loop i) := Table.get_modify_self _ _ _

@[simp] theorem State.updChan_tmb (s : State) (i : Fin 8) (f : Channel → Channel) : (s.updChan i f).tmb = s.tmb := rfl
@[simp] theorem State.updChan_lsq (s : State) (i : Fin 8) (f : Channel → Channel) : (s.updChan i f).lsq = s.lsq := rfl
@[simp] theorem State.updChan_asa (s : State) (i : Fin 8) (f : Channel → Channel) : (s.updChan i f).asa = s.asa := rfl
@[simp] theorem State.updChan_cau (s : State) (i : Fin 8) (f : Channel → Channel) : (s.updChan i f).cau = s.cau := rfl
@[simp] theorem State.updChan_ssu (s : State) (i : Fin 8) (f : Channel → Channel) : (s.updChan i f).ssu = s.ssu := rfl
@[simp] theorem State.updChan_sve (s : State) (i : Fin 8) (f : Channel → Channel) : (s.updChan i f).sve = s.sve := rfl
@[simp] theorem State.updChan_cst (s : State) (i : Fin 8) (f : Channel → Channel) : (s.updChan i f).cst = s.cst := rfl
@[simp] theorem State.updChan_pru (s : State) (i : Fin 8) (f : Channel → Channel) : (s.updChan i f).pru = s.pru := rfl
@[simp] theorem State.updChan_lki (s : State) (i : Fin 8) (f : Channel → Channel) : (s.updChan i f).lki = s.lki := rfl
@[simp] theorem State.updChan_pins (s : State) (i : Fin 8) (f : Channel → Channel) : (s.updChan i f).pins = s.pins := rfl
@[simp] theorem State.updChan_pending (s : State) (i : Fin 8) (f : Channel → Channel) : (s.updChan i f).pending = s.pending := rfl
theorem State.updChan_chan (s : State) (i j : Fin 8) (f : Channel → Channel) :
    (s.updChan i f).chan j = if j = i then f (s.chan j) else s.chan j := Table.get_modify _ _ _ _
@[simp] theorem State.updChan_chan_self (s : State) (i : Fin 8) (f : Channel → Channel) :
    (s.updChan i f).chan i = f (s.chan i) := Table.get_modify_self _ _ _

@[simp] theorem State.updActs_tmb (s : State) (f : Actuator → Actuator) : (s.updActs f).tmb = s.tmb := rfl
@[simp] theorem State.updActs_lsq (s : State) (f : Actuator → Actuator) : (s.updActs f).lsq = s.lsq := rfl
@[simp] theorem State.updActs_cau (s : State) (f : Actuator → Actuator) : (s.updActs f).cau = s.cau := rfl
@[simp] theorem State.updActs_ssu (s : State) (f : Actuator → Actuator) : (s.updActs f).ssu = s.ssu := rfl
@[simp] theorem State.updActs_sve (s : State) (f : Actuator → Actuator) : (s.updActs f).sve = s.sve := rfl
@[simp] theorem State.updActs_cst (s : State) (f : Actuator → Actuator) : (s.updActs f).cst = s.cst := rfl
@[simp] theorem State.updActs_ckm (s : State) (f : Actuator → Actuator) : (s.updActs f).ckm = s.ckm := rfl
@[simp] theorem State.updActs_pru (s : State) (f : Actuator → Actuator) : (s.updActs f).pru = s.pru := rfl
@[simp] theorem State.updActs_lki (s : State) (f : Actuator → Actuator) : (s.updActs f).lki = s.lki := rfl
@[simp] theorem State.updActs_pins (s : State) (f : Actuator → Actuator) : (s.updActs f).pins = s.pins := rfl
@[simp] theorem State.updActs_pending (s : State) (f : Actuator → Actuator) : (s.updActs f).pending = s.pending := rfl
@[simp] theorem State.updActs_act (s : State) (i : Fin 8) (f : Actuator → Actuator) :
    (s.updActs f).act i = f (s.act i) := Table.get_map _ _ _
@[simp] theorem State.updActs_frames (s : State) (f : Actuator → Actuator) : (s.updActs f).asa.frames = s.asa.frames := rfl
@[simp] theorem State.updActs_pm (s : State) (f : Actuator → Actuator) : (s.updActs f).asa.pm = s.asa.pm := rfl
@[simp] theorem State.updActs_alignRate (s : State) (f : Actuator → Actuator) :
    (s.updActs f).asa.alignRate = s.asa.alignRate := rfl
@[simp] theorem State.updActs_isolation (s : State) (f : Actuator → Actuator) :
    (s.updActs f).asa.isolation = s.asa.isolation := rfl
@[simp] theorem State.updAct_frames (s : State) (i : Fin 8) (f : Actuator → Actuator) :
    (s.updAct i f).asa.frames = s.asa.frames := rfl
@[simp] theorem State.updGauge_module (s : State) (i : Fin 256) (f : Gauge → Gauge) (m : Fin 16) :
    (s.updGauge i f).module m = s.module m := rfl
@[simp] theorem State.updGauge_groups (s : State) (i : Fin 256) (f : Gauge → Gauge) :
    (s.updGauge i f).ssu.groups = s.ssu.groups := rfl
@[simp] theorem State.updModule_gauge (s : State) (m : Fin 16) (f : Module → Module) (g : Fin 256) :
    (s.updModule m f).gauge g = s.gauge g := rfl
@[simp] theorem State.updModule_groups (s : State) (m : Fin 16) (f : Module → Module) :
    (s.updModule m f).ssu.groups = s.ssu.groups := rfl
@[simp] theorem State.updLoop_chan (s : State) (i : Fin 32) (f : LoopRec → LoopRec) (c : Fin 8) :
    (s.updLoop i f).chan c = s.chan c := rfl
@[simp] theorem State.updLoop_caution (s : State) (i : Fin 32) (f : LoopRec → LoopRec) :
    (s.updLoop i f).ckm.caution = s.ckm.caution := rfl
@[simp] theorem State.updLoop_feSilent (s : State) (i : Fin 32) (f : LoopRec → LoopRec) :
    (s.updLoop i f).ckm.feSilent = s.ckm.feSilent := rfl
@[simp] theorem State.updChan_loop (s : State) (c : Fin 8) (f : Channel → Channel) (i : Fin 32) :
    (s.updChan c f).loop i = s.loop i := rfl
@[simp] theorem State.updChan_caution (s : State) (c : Fin 8) (f : Channel → Channel) :
    (s.updChan c f).ckm.caution = s.ckm.caution := rfl
@[simp] theorem State.updChan_feSilent (s : State) (c : Fin 8) (f : Channel → Channel) :
    (s.updChan c f).ckm.feSilent = s.ckm.feSilent := rfl

@[simp] theorem State.setEntry_tmb (s : State) (i : Fin 64) (e : Option PlanEntry) : (s.setEntry i e).tmb = s.tmb := rfl
@[simp] theorem State.setEntry_lsq (s : State) (i : Fin 64) (e : Option PlanEntry) : (s.setEntry i e).lsq = s.lsq := rfl
@[simp] theorem State.setEntry_asa (s : State) (i : Fin 64) (e : Option PlanEntry) : (s.setEntry i e).asa = s.asa := rfl
@[simp] theorem State.setEntry_cau (s : State) (i : Fin 64) (e : Option PlanEntry) : (s.setEntry i e).cau = s.cau := rfl
@[simp] theorem State.setEntry_ssu (s : State) (i : Fin 64) (e : Option PlanEntry) : (s.setEntry i e).ssu = s.ssu := rfl
@[simp] theorem State.setEntry_cst (s : State) (i : Fin 64) (e : Option PlanEntry) : (s.setEntry i e).cst = s.cst := rfl
@[simp] theorem State.setEntry_ckm (s : State) (i : Fin 64) (e : Option PlanEntry) : (s.setEntry i e).ckm = s.ckm := rfl
@[simp] theorem State.setEntry_pru (s : State) (i : Fin 64) (e : Option PlanEntry) : (s.setEntry i e).pru = s.pru := rfl
@[simp] theorem State.setEntry_lki (s : State) (i : Fin 64) (e : Option PlanEntry) : (s.setEntry i e).lki = s.lki := rfl
@[simp] theorem State.setEntry_pins (s : State) (i : Fin 64) (e : Option PlanEntry) : (s.setEntry i e).pins = s.pins := rfl
@[simp] theorem State.setEntry_pending (s : State) (i : Fin 64) (e : Option PlanEntry) : (s.setEntry i e).pending = s.pending := rfl
theorem State.setEntry_entry (s : State) (i j : Fin 64) (e : Option PlanEntry) :
    (s.setEntry i e).entry j = if j = i then e else s.entry j := Table.get_set _ _ _ _
@[simp] theorem State.setEntry_entry_self (s : State) (i : Fin 64) (e : Option PlanEntry) :
    (s.setEntry i e).entry i = e := Table.get_set_self _ _ _

@[simp] theorem State.updCause_tmb (s : State) (k : CauseKind) (f : Cause → Cause) : (s.updCause k f).tmb = s.tmb := rfl
@[simp] theorem State.updCause_lsq (s : State) (k : CauseKind) (f : Cause → Cause) : (s.updCause k f).lsq = s.lsq := rfl
@[simp] theorem State.updCause_asa (s : State) (k : CauseKind) (f : Cause → Cause) : (s.updCause k f).asa = s.asa := rfl
@[simp] theorem State.updCause_cau (s : State) (k : CauseKind) (f : Cause → Cause) : (s.updCause k f).cau = s.cau := rfl
@[simp] theorem State.updCause_ssu (s : State) (k : CauseKind) (f : Cause → Cause) : (s.updCause k f).ssu = s.ssu := rfl
@[simp] theorem State.updCause_sve (s : State) (k : CauseKind) (f : Cause → Cause) : (s.updCause k f).sve = s.sve := rfl
@[simp] theorem State.updCause_cst (s : State) (k : CauseKind) (f : Cause → Cause) : (s.updCause k f).cst = s.cst := rfl
@[simp] theorem State.updCause_ckm (s : State) (k : CauseKind) (f : Cause → Cause) : (s.updCause k f).ckm = s.ckm := rfl
@[simp] theorem State.updCause_lki (s : State) (k : CauseKind) (f : Cause → Cause) : (s.updCause k f).lki = s.lki := rfl
@[simp] theorem State.updCause_pins (s : State) (k : CauseKind) (f : Cause → Cause) : (s.updCause k f).pins = s.pins := rfl
@[simp] theorem State.updCause_pending (s : State) (k : CauseKind) (f : Cause → Cause) : (s.updCause k f).pending = s.pending := rfl
@[simp] theorem State.updCause_state (s : State) (k : CauseKind) (f : Cause → Cause) :
    (s.updCause k f).pru.state = s.pru.state := rfl
@[simp] theorem State.updCause_entered (s : State) (k : CauseKind) (f : Cause → Cause) :
    (s.updCause k f).pru.entered = s.pru.entered := rfl

theorem CauseKind.row_injective {j k : CauseKind} (h : j.row = k.row) : j = k := by
  cases j <;> cases k <;> first | rfl | simp [CauseKind.row] at h

theorem State.updCause_cause (s : State) (k j : CauseKind) (f : Cause → Cause) :
    (s.updCause k f).cause j = if j = k then f (s.cause j) else s.cause j := by
  refine (Table.get_modify _ _ _ _).trans ?_
  rcases eq_or_ne j k with rfl | h
  · simp [State.cause]
  · have : j.row ≠ k.row := fun e => h (CauseKind.row_injective e)
    simp [State.cause, h, this]
@[simp] theorem State.updCause_cause_self (s : State) (k : CauseKind) (f : Cause → Cause) :
    (s.updCause k f).cause k = f (s.cause k) := by simp [State.updCause_cause]

/-! ### Readings that an update of another block leaves -/

/-- What a `act` record reads as depends on its block alone. -/
theorem State.act_congr {s t : State} (h : t.asa = s.asa) (i : Fin 8) : t.act i = s.act i := by
  simp [State.act, h]
@[simp] theorem State.updTmb_act (s : State) (f : Tmb → Tmb) (i : Fin 8) : (s.updTmb f).act i = s.act i := rfl
@[simp] theorem State.updLsq_act (s : State) (f : Lsq → Lsq) (i : Fin 8) : (s.updLsq f).act i = s.act i := rfl
@[simp] theorem State.updCau_act (s : State) (f : Cau → Cau) (i : Fin 8) : (s.updCau f).act i = s.act i := rfl
@[simp] theorem State.updSsu_act (s : State) (f : Ssu → Ssu) (i : Fin 8) : (s.updSsu f).act i = s.act i := rfl
@[simp] theorem State.updSve_act (s : State) (f : Sve → Sve) (i : Fin 8) : (s.updSve f).act i = s.act i := rfl
@[simp] theorem State.updCst_act (s : State) (f : Cst → Cst) (i : Fin 8) : (s.updCst f).act i = s.act i := rfl
@[simp] theorem State.updCkm_act (s : State) (f : Ckm → Ckm) (i : Fin 8) : (s.updCkm f).act i = s.act i := rfl
@[simp] theorem State.updPru_act (s : State) (f : Pru → Pru) (i : Fin 8) : (s.updPru f).act i = s.act i := rfl
@[simp] theorem State.updLki_act (s : State) (f : Lki → Lki) (i : Fin 8) : (s.updLki f).act i = s.act i := rfl
@[simp] theorem State.updLink_act (s : State) (l : Link) (f : LinkSt → LinkSt) (i : Fin 8) : (s.updLink l f).act i = s.act i := rfl

/-- What a `frame` record reads as depends on its block alone. -/
theorem State.frame_congr {s t : State} (h : t.asa = s.asa) (i : Fin 4) : t.frame i = s.frame i := by
  simp [State.frame, h]
@[simp] theorem State.updTmb_frame (s : State) (f : Tmb → Tmb) (i : Fin 4) : (s.updTmb f).frame i = s.frame i := rfl
@[simp] theorem State.updLsq_frame (s : State) (f : Lsq → Lsq) (i : Fin 4) : (s.updLsq f).frame i = s.frame i := rfl
@[simp] theorem State.updCau_frame (s : State) (f : Cau → Cau) (i : Fin 4) : (s.updCau f).frame i = s.frame i := rfl
@[simp] theorem State.updSsu_frame (s : State) (f : Ssu → Ssu) (i : Fin 4) : (s.updSsu f).frame i = s.frame i := rfl
@[simp] theorem State.updSve_frame (s : State) (f : Sve → Sve) (i : Fin 4) : (s.updSve f).frame i = s.frame i := rfl
@[simp] theorem State.updCst_frame (s : State) (f : Cst → Cst) (i : Fin 4) : (s.updCst f).frame i = s.frame i := rfl
@[simp] theorem State.updCkm_frame (s : State) (f : Ckm → Ckm) (i : Fin 4) : (s.updCkm f).frame i = s.frame i := rfl
@[simp] theorem State.updPru_frame (s : State) (f : Pru → Pru) (i : Fin 4) : (s.updPru f).frame i = s.frame i := rfl
@[simp] theorem State.updLki_frame (s : State) (f : Lki → Lki) (i : Fin 4) : (s.updLki f).frame i = s.frame i := rfl
@[simp] theorem State.updLink_frame (s : State) (l : Link) (f : LinkSt → LinkSt) (i : Fin 4) : (s.updLink l f).frame i = s.frame i := rfl

/-- What a `gauge` record reads as depends on its block alone. -/
theorem State.gauge_congr {s t : State} (h : t.ssu = s.ssu) (i : Fin 256) : t.gauge i = s.gauge i := by
  simp [State.gauge, h]
@[simp] theorem State.updTmb_gauge (s : State) (f : Tmb → Tmb) (i : Fin 256) : (s.updTmb f).gauge i = s.gauge i := rfl
@[simp] theorem State.updLsq_gauge (s : State) (f : Lsq → Lsq) (i : Fin 256) : (s.updLsq f).gauge i = s.gauge i := rfl
@[simp] theorem State.updAsa_gauge (s : State) (f : Asa → Asa) (i : Fin 256) : (s.updAsa f).gauge i = s.gauge i := rfl
@[simp] theorem State.updCau_gauge (s : State) (f : Cau → Cau) (i : Fin 256) : (s.updCau f).gauge i = s.gauge i := rfl
@[simp] theorem State.updSve_gauge (s : State) (f : Sve → Sve) (i : Fin 256) : (s.updSve f).gauge i = s.gauge i := rfl
@[simp] theorem State.updCst_gauge (s : State) (f : Cst → Cst) (i : Fin 256) : (s.updCst f).gauge i = s.gauge i := rfl
@[simp] theorem State.updCkm_gauge (s : State) (f : Ckm → Ckm) (i : Fin 256) : (s.updCkm f).gauge i = s.gauge i := rfl
@[simp] theorem State.updPru_gauge (s : State) (f : Pru → Pru) (i : Fin 256) : (s.updPru f).gauge i = s.gauge i := rfl
@[simp] theorem State.updLki_gauge (s : State) (f : Lki → Lki) (i : Fin 256) : (s.updLki f).gauge i = s.gauge i := rfl
@[simp] theorem State.updLink_gauge (s : State) (l : Link) (f : LinkSt → LinkSt) (i : Fin 256) : (s.updLink l f).gauge i = s.gauge i := rfl

/-- What a `module` record reads as depends on its block alone. -/
theorem State.module_congr {s t : State} (h : t.ssu = s.ssu) (i : Fin 16) : t.module i = s.module i := by
  simp [State.module, h]
@[simp] theorem State.updTmb_module (s : State) (f : Tmb → Tmb) (i : Fin 16) : (s.updTmb f).module i = s.module i := rfl
@[simp] theorem State.updLsq_module (s : State) (f : Lsq → Lsq) (i : Fin 16) : (s.updLsq f).module i = s.module i := rfl
@[simp] theorem State.updAsa_module (s : State) (f : Asa → Asa) (i : Fin 16) : (s.updAsa f).module i = s.module i := rfl
@[simp] theorem State.updCau_module (s : State) (f : Cau → Cau) (i : Fin 16) : (s.updCau f).module i = s.module i := rfl
@[simp] theorem State.updSve_module (s : State) (f : Sve → Sve) (i : Fin 16) : (s.updSve f).module i = s.module i := rfl
@[simp] theorem State.updCst_module (s : State) (f : Cst → Cst) (i : Fin 16) : (s.updCst f).module i = s.module i := rfl
@[simp] theorem State.updCkm_module (s : State) (f : Ckm → Ckm) (i : Fin 16) : (s.updCkm f).module i = s.module i := rfl
@[simp] theorem State.updPru_module (s : State) (f : Pru → Pru) (i : Fin 16) : (s.updPru f).module i = s.module i := rfl
@[simp] theorem State.updLki_module (s : State) (f : Lki → Lki) (i : Fin 16) : (s.updLki f).module i = s.module i := rfl
@[simp] theorem State.updLink_module (s : State) (l : Link) (f : LinkSt → LinkSt) (i : Fin 16) : (s.updLink l f).module i = s.module i := rfl

/-- What a `entry` record reads as depends on its block alone. -/
theorem State.entry_congr {s t : State} (h : t.sve = s.sve) (i : Fin 64) : t.entry i = s.entry i := by
  simp [State.entry, h]
@[simp] theorem State.updTmb_entry (s : State) (f : Tmb → Tmb) (i : Fin 64) : (s.updTmb f).entry i = s.entry i := rfl
@[simp] theorem State.updLsq_entry (s : State) (f : Lsq → Lsq) (i : Fin 64) : (s.updLsq f).entry i = s.entry i := rfl
@[simp] theorem State.updAsa_entry (s : State) (f : Asa → Asa) (i : Fin 64) : (s.updAsa f).entry i = s.entry i := rfl
@[simp] theorem State.updCau_entry (s : State) (f : Cau → Cau) (i : Fin 64) : (s.updCau f).entry i = s.entry i := rfl
@[simp] theorem State.updSsu_entry (s : State) (f : Ssu → Ssu) (i : Fin 64) : (s.updSsu f).entry i = s.entry i := rfl
@[simp] theorem State.updCst_entry (s : State) (f : Cst → Cst) (i : Fin 64) : (s.updCst f).entry i = s.entry i := rfl
@[simp] theorem State.updCkm_entry (s : State) (f : Ckm → Ckm) (i : Fin 64) : (s.updCkm f).entry i = s.entry i := rfl
@[simp] theorem State.updPru_entry (s : State) (f : Pru → Pru) (i : Fin 64) : (s.updPru f).entry i = s.entry i := rfl
@[simp] theorem State.updLki_entry (s : State) (f : Lki → Lki) (i : Fin 64) : (s.updLki f).entry i = s.entry i := rfl
@[simp] theorem State.updLink_entry (s : State) (l : Link) (f : LinkSt → LinkSt) (i : Fin 64) : (s.updLink l f).entry i = s.entry i := rfl

/-- What a `loop` record reads as depends on its block alone. -/
theorem State.loop_congr {s t : State} (h : t.ckm = s.ckm) (i : Fin 32) : t.loop i = s.loop i := by
  simp [State.loop, h]
@[simp] theorem State.updTmb_loop (s : State) (f : Tmb → Tmb) (i : Fin 32) : (s.updTmb f).loop i = s.loop i := rfl
@[simp] theorem State.updLsq_loop (s : State) (f : Lsq → Lsq) (i : Fin 32) : (s.updLsq f).loop i = s.loop i := rfl
@[simp] theorem State.updAsa_loop (s : State) (f : Asa → Asa) (i : Fin 32) : (s.updAsa f).loop i = s.loop i := rfl
@[simp] theorem State.updCau_loop (s : State) (f : Cau → Cau) (i : Fin 32) : (s.updCau f).loop i = s.loop i := rfl
@[simp] theorem State.updSsu_loop (s : State) (f : Ssu → Ssu) (i : Fin 32) : (s.updSsu f).loop i = s.loop i := rfl
@[simp] theorem State.updSve_loop (s : State) (f : Sve → Sve) (i : Fin 32) : (s.updSve f).loop i = s.loop i := rfl
@[simp] theorem State.updCst_loop (s : State) (f : Cst → Cst) (i : Fin 32) : (s.updCst f).loop i = s.loop i := rfl
@[simp] theorem State.updPru_loop (s : State) (f : Pru → Pru) (i : Fin 32) : (s.updPru f).loop i = s.loop i := rfl
@[simp] theorem State.updLki_loop (s : State) (f : Lki → Lki) (i : Fin 32) : (s.updLki f).loop i = s.loop i := rfl
@[simp] theorem State.updLink_loop (s : State) (l : Link) (f : LinkSt → LinkSt) (i : Fin 32) : (s.updLink l f).loop i = s.loop i := rfl

/-- What a `chan` record reads as depends on its block alone. -/
theorem State.chan_congr {s t : State} (h : t.ckm = s.ckm) (i : Fin 8) : t.chan i = s.chan i := by
  simp [State.chan, h]
@[simp] theorem State.updTmb_chan (s : State) (f : Tmb → Tmb) (i : Fin 8) : (s.updTmb f).chan i = s.chan i := rfl
@[simp] theorem State.updLsq_chan (s : State) (f : Lsq → Lsq) (i : Fin 8) : (s.updLsq f).chan i = s.chan i := rfl
@[simp] theorem State.updAsa_chan (s : State) (f : Asa → Asa) (i : Fin 8) : (s.updAsa f).chan i = s.chan i := rfl
@[simp] theorem State.updCau_chan (s : State) (f : Cau → Cau) (i : Fin 8) : (s.updCau f).chan i = s.chan i := rfl
@[simp] theorem State.updSsu_chan (s : State) (f : Ssu → Ssu) (i : Fin 8) : (s.updSsu f).chan i = s.chan i := rfl
@[simp] theorem State.updSve_chan (s : State) (f : Sve → Sve) (i : Fin 8) : (s.updSve f).chan i = s.chan i := rfl
@[simp] theorem State.updCst_chan (s : State) (f : Cst → Cst) (i : Fin 8) : (s.updCst f).chan i = s.chan i := rfl
@[simp] theorem State.updPru_chan (s : State) (f : Pru → Pru) (i : Fin 8) : (s.updPru f).chan i = s.chan i := rfl
@[simp] theorem State.updLki_chan (s : State) (f : Lki → Lki) (i : Fin 8) : (s.updLki f).chan i = s.chan i := rfl
@[simp] theorem State.updLink_chan (s : State) (l : Link) (f : LinkSt → LinkSt) (i : Fin 8) : (s.updLink l f).chan i = s.chan i := rfl

/-- What a `cause` record reads as depends on its block alone. -/
theorem State.cause_congr {s t : State} (h : t.pru = s.pru) (k : CauseKind) : t.cause k = s.cause k := by
  simp [State.cause, h]
@[simp] theorem State.updTmb_cause (s : State) (f : Tmb → Tmb) (k : CauseKind) : (s.updTmb f).cause k = s.cause k := rfl
@[simp] theorem State.updLsq_cause (s : State) (f : Lsq → Lsq) (k : CauseKind) : (s.updLsq f).cause k = s.cause k := rfl
@[simp] theorem State.updAsa_cause (s : State) (f : Asa → Asa) (k : CauseKind) : (s.updAsa f).cause k = s.cause k := rfl
@[simp] theorem State.updCau_cause (s : State) (f : Cau → Cau) (k : CauseKind) : (s.updCau f).cause k = s.cause k := rfl
@[simp] theorem State.updSsu_cause (s : State) (f : Ssu → Ssu) (k : CauseKind) : (s.updSsu f).cause k = s.cause k := rfl
@[simp] theorem State.updSve_cause (s : State) (f : Sve → Sve) (k : CauseKind) : (s.updSve f).cause k = s.cause k := rfl
@[simp] theorem State.updCst_cause (s : State) (f : Cst → Cst) (k : CauseKind) : (s.updCst f).cause k = s.cause k := rfl
@[simp] theorem State.updCkm_cause (s : State) (f : Ckm → Ckm) (k : CauseKind) : (s.updCkm f).cause k = s.cause k := rfl
@[simp] theorem State.updLki_cause (s : State) (f : Lki → Lki) (k : CauseKind) : (s.updLki f).cause k = s.cause k := rfl
@[simp] theorem State.updLink_cause (s : State) (l : Link) (f : LinkSt → LinkSt) (k : CauseKind) : (s.updLink l f).cause k = s.cause k := rfl

/-- What a `link` record reads as depends on its block alone. -/
theorem State.link_congr {s t : State} (h : t.lki = s.lki) (l : Link) : t.link l = s.link l := by
  simp [State.link, h]
@[simp] theorem State.updTmb_link (s : State) (f : Tmb → Tmb) (l : Link) : (s.updTmb f).link l = s.link l := rfl
@[simp] theorem State.updLsq_link (s : State) (f : Lsq → Lsq) (l : Link) : (s.updLsq f).link l = s.link l := rfl
@[simp] theorem State.updAsa_link (s : State) (f : Asa → Asa) (l : Link) : (s.updAsa f).link l = s.link l := rfl
@[simp] theorem State.updCau_link (s : State) (f : Cau → Cau) (l : Link) : (s.updCau f).link l = s.link l := rfl
@[simp] theorem State.updSsu_link (s : State) (f : Ssu → Ssu) (l : Link) : (s.updSsu f).link l = s.link l := rfl
@[simp] theorem State.updSve_link (s : State) (f : Sve → Sve) (l : Link) : (s.updSve f).link l = s.link l := rfl
@[simp] theorem State.updCst_link (s : State) (f : Cst → Cst) (l : Link) : (s.updCst f).link l = s.link l := rfl
@[simp] theorem State.updCkm_link (s : State) (f : Ckm → Ckm) (l : Link) : (s.updCkm f).link l = s.link l := rfl
@[simp] theorem State.updPru_link (s : State) (f : Pru → Pru) (l : Link) : (s.updPru f).link l = s.link l := rfl

@[simp] theorem State.now_def (s : State) : s.now = s.tmb.hall := rfl

end Machine

end Sys2Proof
end

