-- ==== Sys2Proof/Laws/Frames.lean ====
section
/-! SUPPORT. Which blocks each shared operation leaves as they are, said once for each: a block that a lemma does not name
is one the operation may change. -/

namespace Sys2Proof.Machine

/-- `raise` touches only lki. -/
@[simp] theorem raise_frame (b : NoticeBody) (s : State) :
    (raise b s).tmb = s.tmb ∧ (raise b s).lsq = s.lsq ∧ (raise b s).asa = s.asa ∧ (raise b s).cau = s.cau
    ∧ (raise b s).ssu = s.ssu ∧ (raise b s).sve = s.sve ∧ (raise b s).cst = s.cst ∧ (raise b s).ckm = s.ckm
    ∧ (raise b s).pru = s.pru ∧ (raise b s).pins = s.pins ∧ (raise b s).pending = s.pending := by
  simp [raise]

/-- `service` touches only lki. -/
@[simp] theorem service_frame (s : State) :
    (service s).tmb = s.tmb ∧ (service s).lsq = s.lsq ∧ (service s).asa = s.asa ∧ (service s).cau = s.cau
    ∧ (service s).ssu = s.ssu ∧ (service s).sve = s.sve ∧ (service s).cst = s.cst ∧ (service s).ckm = s.ckm
    ∧ (service s).pru = s.pru ∧ (service s).pins = s.pins ∧ (service s).pending = s.pending := by
  simp [service]

/-- `raiseState` touches only lki. -/
@[simp] theorem raiseState_frame (s : State) :
    (raiseState s).tmb = s.tmb ∧ (raiseState s).lsq = s.lsq ∧ (raiseState s).asa = s.asa
    ∧ (raiseState s).cau = s.cau ∧ (raiseState s).ssu = s.ssu ∧ (raiseState s).sve = s.sve
    ∧ (raiseState s).cst = s.cst ∧ (raiseState s).ckm = s.ckm ∧ (raiseState s).pru = s.pru
    ∧ (raiseState s).pins = s.pins ∧ (raiseState s).pending = s.pending := by
  simp [raiseState]

/-- `seqBecome` touches only lsq, lki. -/
@[simp] theorem seqBecome_frame (st : SeqState) (s : State) :
    (seqBecome st s).tmb = s.tmb ∧ (seqBecome st s).asa = s.asa ∧ (seqBecome st s).cau = s.cau
    ∧ (seqBecome st s).ssu = s.ssu ∧ (seqBecome st s).sve = s.sve ∧ (seqBecome st s).cst = s.cst
    ∧ (seqBecome st s).ckm = s.ckm ∧ (seqBecome st s).pru = s.pru ∧ (seqBecome st s).pins = s.pins
    ∧ (seqBecome st s).pending = s.pending := by
  unfold seqBecome
  split <;> simp

/-- `setClaim` touches only lsq. -/
@[simp] theorem setClaim_frame (who : Claimant) (v : Bool) (s : State) :
    (setClaim who v s).tmb = s.tmb ∧ (setClaim who v s).asa = s.asa ∧ (setClaim who v s).cau = s.cau
    ∧ (setClaim who v s).ssu = s.ssu ∧ (setClaim who v s).sve = s.sve ∧ (setClaim who v s).cst = s.cst
    ∧ (setClaim who v s).ckm = s.ckm ∧ (setClaim who v s).pru = s.pru ∧ (setClaim who v s).lki = s.lki
    ∧ (setClaim who v s).pins = s.pins ∧ (setClaim who v s).pending = s.pending := by
  simp [setClaim]

/-- `placeClaim` touches only lsq, lki. -/
@[simp] theorem placeClaim_frame (who : Claimant) (s : State) :
    (placeClaim who s).tmb = s.tmb ∧ (placeClaim who s).asa = s.asa ∧ (placeClaim who s).cau = s.cau
    ∧ (placeClaim who s).ssu = s.ssu ∧ (placeClaim who s).sve = s.sve ∧ (placeClaim who s).cst = s.cst
    ∧ (placeClaim who s).ckm = s.ckm ∧ (placeClaim who s).pru = s.pru ∧ (placeClaim who s).pins = s.pins
    ∧ (placeClaim who s).pending = s.pending := by
  unfold placeClaim
  dsimp only
  split <;> simp

/-- `releaseClaim` touches only lsq, lki. -/
@[simp] theorem releaseClaim_frame (who : Claimant) (s : State) :
    (releaseClaim who s).tmb = s.tmb ∧ (releaseClaim who s).asa = s.asa ∧ (releaseClaim who s).cau = s.cau
    ∧ (releaseClaim who s).ssu = s.ssu ∧ (releaseClaim who s).sve = s.sve ∧ (releaseClaim who s).cst = s.cst
    ∧ (releaseClaim who s).ckm = s.ckm ∧ (releaseClaim who s).pru = s.pru ∧ (releaseClaim who s).pins = s.pins
    ∧ (releaseClaim who s).pending = s.pending := by
  unfold releaseClaim
  dsimp only
  split
  · split <;> simp
  · simp

/-- `clearConsents` touches only lsq. -/
@[simp] theorem clearConsents_frame (s : State) :
    (clearConsents s).tmb = s.tmb ∧ (clearConsents s).asa = s.asa ∧ (clearConsents s).cau = s.cau
    ∧ (clearConsents s).ssu = s.ssu ∧ (clearConsents s).sve = s.sve ∧ (clearConsents s).cst = s.cst
    ∧ (clearConsents s).ckm = s.ckm ∧ (clearConsents s).pru = s.pru ∧ (clearConsents s).lki = s.lki
    ∧ (clearConsents s).pins = s.pins ∧ (clearConsents s).pending = s.pending := by
  simp [clearConsents]

/-- `saveRestart` touches only lsq. -/
@[simp] theorem saveRestart_frame (s : State) :
    (saveRestart s).tmb = s.tmb ∧ (saveRestart s).asa = s.asa ∧ (saveRestart s).cau = s.cau
    ∧ (saveRestart s).ssu = s.ssu ∧ (saveRestart s).sve = s.sve ∧ (saveRestart s).cst = s.cst
    ∧ (saveRestart s).ckm = s.ckm ∧ (saveRestart s).pru = s.pru ∧ (saveRestart s).lki = s.lki
    ∧ (saveRestart s).pins = s.pins ∧ (saveRestart s).pending = s.pending := by
  unfold saveRestart
  split <;> simp

/-- `abandonProgram` touches only lsq. -/
@[simp] theorem abandonProgram_frame (s : State) :
    (abandonProgram s).tmb = s.tmb ∧ (abandonProgram s).asa = s.asa ∧ (abandonProgram s).cau = s.cau
    ∧ (abandonProgram s).ssu = s.ssu ∧ (abandonProgram s).sve = s.sve ∧ (abandonProgram s).cst = s.cst
    ∧ (abandonProgram s).ckm = s.ckm ∧ (abandonProgram s).pru = s.pru ∧ (abandonProgram s).lki = s.lki
    ∧ (abandonProgram s).pins = s.pins ∧ (abandonProgram s).pending = s.pending := by
  simp [abandonProgram]

/-- `seqUnload` touches only lsq, lki. -/
@[simp] theorem seqUnload_frame (s : State) :
    (seqUnload s).tmb = s.tmb ∧ (seqUnload s).asa = s.asa ∧ (seqUnload s).cau = s.cau ∧ (seqUnload s).ssu = s.ssu
    ∧ (seqUnload s).sve = s.sve ∧ (seqUnload s).cst = s.cst ∧ (seqUnload s).ckm = s.ckm ∧ (seqUnload s).pru = s.pru
    ∧ (seqUnload s).pins = s.pins ∧ (seqUnload s).pending = s.pending := by
  simp [seqUnload]

/-- `seqUnloaded` touches only lsq, lki. -/
@[simp] theorem seqUnloaded_frame (s : State) :
    (seqUnloaded s).tmb = s.tmb ∧ (seqUnloaded s).asa = s.asa ∧ (seqUnloaded s).cau = s.cau
    ∧ (seqUnloaded s).ssu = s.ssu ∧ (seqUnloaded s).sve = s.sve ∧ (seqUnloaded s).cst = s.cst
    ∧ (seqUnloaded s).ckm = s.ckm ∧ (seqUnloaded s).pru = s.pru ∧ (seqUnloaded s).pins = s.pins
    ∧ (seqUnloaded s).pending = s.pending := by
  simp [seqUnloaded]

/-- `seqDump` touches only lsq, lki. -/
@[simp] theorem seqDump_frame (s : State) :
    (seqDump s).tmb = s.tmb ∧ (seqDump s).asa = s.asa ∧ (seqDump s).cau = s.cau ∧ (seqDump s).ssu = s.ssu
    ∧ (seqDump s).sve = s.sve ∧ (seqDump s).cst = s.cst ∧ (seqDump s).ckm = s.ckm ∧ (seqDump s).pru = s.pru
    ∧ (seqDump s).pins = s.pins ∧ (seqDump s).pending = s.pending := by
  simp [seqDump]

/-- `checkHighMark` touches only cst, lki. -/
@[simp] theorem checkHighMark_frame (s : State) :
    (checkHighMark s).tmb = s.tmb ∧ (checkHighMark s).lsq = s.lsq ∧ (checkHighMark s).asa = s.asa
    ∧ (checkHighMark s).cau = s.cau ∧ (checkHighMark s).ssu = s.ssu ∧ (checkHighMark s).sve = s.sve
    ∧ (checkHighMark s).ckm = s.ckm ∧ (checkHighMark s).pru = s.pru ∧ (checkHighMark s).pins = s.pins
    ∧ (checkHighMark s).pending = s.pending := by
  unfold checkHighMark
  split <;> simp

/-- `checkLowMark` touches only cst. -/
@[simp] theorem checkLowMark_frame (s : State) :
    (checkLowMark s).tmb = s.tmb ∧ (checkLowMark s).lsq = s.lsq ∧ (checkLowMark s).asa = s.asa
    ∧ (checkLowMark s).cau = s.cau ∧ (checkLowMark s).ssu = s.ssu ∧ (checkLowMark s).sve = s.sve
    ∧ (checkLowMark s).ckm = s.ckm ∧ (checkLowMark s).pru = s.pru ∧ (checkLowMark s).lki = s.lki
    ∧ (checkLowMark s).pins = s.pins ∧ (checkLowMark s).pending = s.pending := by
  unfold checkLowMark
  split <;> simp

/-- `enterRecord` touches only cst, lki. -/
@[simp] theorem enterRecord_frame (b : RecordBody) (s : State) :
    ((enterRecord b s).1).tmb = s.tmb ∧ ((enterRecord b s).1).lsq = s.lsq ∧ ((enterRecord b s).1).asa = s.asa
    ∧ ((enterRecord b s).1).cau = s.cau ∧ ((enterRecord b s).1).ssu = s.ssu ∧ ((enterRecord b s).1).sve = s.sve
    ∧ ((enterRecord b s).1).ckm = s.ckm ∧ ((enterRecord b s).1).pru = s.pru ∧ ((enterRecord b s).1).pins = s.pins
    ∧ ((enterRecord b s).1).pending = s.pending := by
  simp [enterRecord]

/-- `offerRecord` touches only cst, lki. -/
@[simp] theorem offerRecord_frame (b : RecordBody) (s : State) :
    ((offerRecord b s).1).tmb = s.tmb ∧ ((offerRecord b s).1).lsq = s.lsq ∧ ((offerRecord b s).1).asa = s.asa
    ∧ ((offerRecord b s).1).cau = s.cau ∧ ((offerRecord b s).1).ssu = s.ssu ∧ ((offerRecord b s).1).sve = s.sve
    ∧ ((offerRecord b s).1).ckm = s.ckm ∧ ((offerRecord b s).1).pru = s.pru ∧ ((offerRecord b s).1).pins = s.pins
    ∧ ((offerRecord b s).1).pending = s.pending := by
  unfold offerRecord
  split <;> simp

/-- `stall` touches only lsq, cst, lki. -/
@[simp] theorem stall_frame (who : Collector) (s : State) :
    (stall who s).tmb = s.tmb ∧ (stall who s).asa = s.asa ∧ (stall who s).cau = s.cau ∧ (stall who s).ssu = s.ssu
    ∧ (stall who s).sve = s.sve ∧ (stall who s).ckm = s.ckm ∧ (stall who s).pru = s.pru
    ∧ (stall who s).pins = s.pins ∧ (stall who s).pending = s.pending := by
  unfold stall
  dsimp only
  split <;> simp

/-- `evaluateStoreClaim` touches only lsq, lki. -/
@[simp] theorem evaluateStoreClaim_frame (s : State) :
    (evaluateStoreClaim s).tmb = s.tmb ∧ (evaluateStoreClaim s).asa = s.asa ∧ (evaluateStoreClaim s).cau = s.cau
    ∧ (evaluateStoreClaim s).ssu = s.ssu ∧ (evaluateStoreClaim s).sve = s.sve ∧ (evaluateStoreClaim s).cst = s.cst
    ∧ (evaluateStoreClaim s).ckm = s.ckm ∧ (evaluateStoreClaim s).pru = s.pru ∧ (evaluateStoreClaim s).pins = s.pins
    ∧ (evaluateStoreClaim s).pending = s.pending := by
  unfold evaluateStoreClaim
  split <;> simp

/-- `unstall` touches only lsq, cst, lki. -/
@[simp] theorem unstall_frame (who : Collector) (s : State) :
    (unstall who s).tmb = s.tmb ∧ (unstall who s).asa = s.asa ∧ (unstall who s).cau = s.cau
    ∧ (unstall who s).ssu = s.ssu ∧ (unstall who s).sve = s.sve ∧ (unstall who s).ckm = s.ckm
    ∧ (unstall who s).pru = s.pru ∧ (unstall who s).pins = s.pins ∧ (unstall who s).pending = s.pending := by
  simp [unstall]

/-- `afterRemoval` touches only cst. -/
@[simp] theorem afterRemoval_frame (left : List Record) (s : State) :
    (afterRemoval left s).tmb = s.tmb ∧ (afterRemoval left s).lsq = s.lsq ∧ (afterRemoval left s).asa = s.asa
    ∧ (afterRemoval left s).cau = s.cau ∧ (afterRemoval left s).ssu = s.ssu ∧ (afterRemoval left s).sve = s.sve
    ∧ (afterRemoval left s).ckm = s.ckm ∧ (afterRemoval left s).pru = s.pru ∧ (afterRemoval left s).lki = s.lki
    ∧ (afterRemoval left s).pins = s.pins ∧ (afterRemoval left s).pending = s.pending := by
  simp [afterRemoval]

/-- `endReport` touches only pru. -/
@[simp] theorem endReport_frame (k : CauseKind) (x : Nat) (s : State) :
    (endReport k x s).tmb = s.tmb ∧ (endReport k x s).lsq = s.lsq ∧ (endReport k x s).asa = s.asa
    ∧ (endReport k x s).cau = s.cau ∧ (endReport k x s).ssu = s.ssu ∧ (endReport k x s).sve = s.sve
    ∧ (endReport k x s).cst = s.cst ∧ (endReport k x s).ckm = s.ckm ∧ (endReport k x s).lki = s.lki
    ∧ (endReport k x s).pins = s.pins ∧ (endReport k x s).pending = s.pending := by
  simp [endReport]

/-- `dropDeviation` touches only ssu, pru. -/
@[simp] theorem dropDeviation_frame (g : Fin 256) (s : State) :
    (dropDeviation g s).tmb = s.tmb ∧ (dropDeviation g s).lsq = s.lsq ∧ (dropDeviation g s).asa = s.asa
    ∧ (dropDeviation g s).cau = s.cau ∧ (dropDeviation g s).sve = s.sve ∧ (dropDeviation g s).cst = s.cst
    ∧ (dropDeviation g s).ckm = s.ckm ∧ (dropDeviation g s).lki = s.lki ∧ (dropDeviation g s).pins = s.pins
    ∧ (dropDeviation g s).pending = s.pending := by
  unfold dropDeviation
  dsimp only
  split <;> simp

/-- `changeZero` touches only ssu, pru. -/
@[simp] theorem changeZero_frame (g : Fin 256) (z : Int) (s : State) :
    (changeZero g z s).tmb = s.tmb ∧ (changeZero g z s).lsq = s.lsq ∧ (changeZero g z s).asa = s.asa
    ∧ (changeZero g z s).cau = s.cau ∧ (changeZero g z s).sve = s.sve ∧ (changeZero g z s).cst = s.cst
    ∧ (changeZero g z s).ckm = s.ckm ∧ (changeZero g z s).lki = s.lki ∧ (changeZero g z s).pins = s.pins
    ∧ (changeZero g z s).pending = s.pending := by
  unfold changeZero
  split <;> simp

/-- `takeLowPoint` touches only ssu, pru. -/
@[simp] theorem takeLowPoint_frame (g : Fin 256) (p e : Int) (s : State) :
    (takeLowPoint g p e s).tmb = s.tmb ∧ (takeLowPoint g p e s).lsq = s.lsq ∧ (takeLowPoint g p e s).asa = s.asa
    ∧ (takeLowPoint g p e s).cau = s.cau ∧ (takeLowPoint g p e s).sve = s.sve ∧ (takeLowPoint g p e s).cst = s.cst
    ∧ (takeLowPoint g p e s).ckm = s.ckm ∧ (takeLowPoint g p e s).lki = s.lki ∧ (takeLowPoint g p e s).pins = s.pins
    ∧ (takeLowPoint g p e s).pending = s.pending := by
  unfold takeLowPoint
  split <;> simp

/-- `takeHighPoint` touches only ssu. -/
@[simp] theorem takeHighPoint_frame (g : Fin 256) (p e m : Int) (s : State) :
    ((takeHighPoint g p e m s).1).tmb = s.tmb ∧ ((takeHighPoint g p e m s).1).lsq = s.lsq
    ∧ ((takeHighPoint g p e m s).1).asa = s.asa ∧ ((takeHighPoint g p e m s).1).cau = s.cau
    ∧ ((takeHighPoint g p e m s).1).sve = s.sve ∧ ((takeHighPoint g p e m s).1).cst = s.cst
    ∧ ((takeHighPoint g p e m s).1).ckm = s.ckm ∧ ((takeHighPoint g p e m s).1).pru = s.pru
    ∧ ((takeHighPoint g p e m s).1).lki = s.lki ∧ ((takeHighPoint g p e m s).1).pins = s.pins
    ∧ ((takeHighPoint g p e m s).1).pending = s.pending := by
  unfold takeHighPoint
  split
  · split <;> simp
  · simp

/-- `clearRef` touches only ssu, pru. -/
@[simp] theorem clearRef_frame (g : Fin 256) (s : State) :
    (clearRef g s).tmb = s.tmb ∧ (clearRef g s).lsq = s.lsq ∧ (clearRef g s).asa = s.asa
    ∧ (clearRef g s).cau = s.cau ∧ (clearRef g s).sve = s.sve ∧ (clearRef g s).cst = s.cst
    ∧ (clearRef g s).ckm = s.ckm ∧ (clearRef g s).lki = s.lki ∧ (clearRef g s).pins = s.pins
    ∧ (clearRef g s).pending = s.pending := by
  simp [clearRef]

/-- `leaveModule` touches only ssu, pru. -/
@[simp] theorem leaveModule_frame (m : Fin 16) (s : State) :
    (leaveModule m s).tmb = s.tmb ∧ (leaveModule m s).lsq = s.lsq ∧ (leaveModule m s).asa = s.asa
    ∧ (leaveModule m s).cau = s.cau ∧ (leaveModule m s).sve = s.sve ∧ (leaveModule m s).cst = s.cst
    ∧ (leaveModule m s).ckm = s.ckm ∧ (leaveModule m s).lki = s.lki ∧ (leaveModule m s).pins = s.pins
    ∧ (leaveModule m s).pending = s.pending := by
  unfold leaveModule
  split <;> simp

/-- `raisePlan` touches only lki. -/
@[simp] theorem raisePlan_frame (s : State) :
    (raisePlan s).tmb = s.tmb ∧ (raisePlan s).lsq = s.lsq ∧ (raisePlan s).asa = s.asa ∧ (raisePlan s).cau = s.cau
    ∧ (raisePlan s).ssu = s.ssu ∧ (raisePlan s).sve = s.sve ∧ (raisePlan s).cst = s.cst ∧ (raisePlan s).ckm = s.ckm
    ∧ (raisePlan s).pru = s.pru ∧ (raisePlan s).pins = s.pins ∧ (raisePlan s).pending = s.pending := by
  simp [raisePlan]

/-- `hold_` touches only sve, lki. -/
@[simp] theorem hold_frame (why : HeldReason) (s : State) :
    (hold_ why s).tmb = s.tmb ∧ (hold_ why s).lsq = s.lsq ∧ (hold_ why s).asa = s.asa ∧ (hold_ why s).cau = s.cau
    ∧ (hold_ why s).ssu = s.ssu ∧ (hold_ why s).cst = s.cst ∧ (hold_ why s).ckm = s.ckm ∧ (hold_ why s).pru = s.pru
    ∧ (hold_ why s).pins = s.pins ∧ (hold_ why s).pending = s.pending := by
  unfold hold_
  dsimp only
  split <;> simp

/-- `openSet` touches only sve. -/
@[simp] theorem openSet_frame (s : State) :
    (openSet s).tmb = s.tmb ∧ (openSet s).lsq = s.lsq ∧ (openSet s).asa = s.asa ∧ (openSet s).cau = s.cau
    ∧ (openSet s).ssu = s.ssu ∧ (openSet s).cst = s.cst ∧ (openSet s).ckm = s.ckm ∧ (openSet s).pru = s.pru
    ∧ (openSet s).lki = s.lki ∧ (openSet s).pins = s.pins ∧ (openSet s).pending = s.pending := by
  simp [openSet]

/-- `writeSetLast` touches only sve. -/
@[simp] theorem writeSetLast_frame (a b : Fin 64) (s : State) :
    (writeSetLast a b s).tmb = s.tmb ∧ (writeSetLast a b s).lsq = s.lsq ∧ (writeSetLast a b s).asa = s.asa
    ∧ (writeSetLast a b s).cau = s.cau ∧ (writeSetLast a b s).ssu = s.ssu ∧ (writeSetLast a b s).cst = s.cst
    ∧ (writeSetLast a b s).ckm = s.ckm ∧ (writeSetLast a b s).pru = s.pru ∧ (writeSetLast a b s).lki = s.lki
    ∧ (writeSetLast a b s).pins = s.pins ∧ (writeSetLast a b s).pending = s.pending := by
  simp [writeSetLast]

/-- `closeSet` touches only sve. -/
@[simp] theorem closeSet_frame (last : Option (Fin 64)) (s : State) :
    (closeSet last s).tmb = s.tmb ∧ (closeSet last s).lsq = s.lsq ∧ (closeSet last s).asa = s.asa
    ∧ (closeSet last s).cau = s.cau ∧ (closeSet last s).ssu = s.ssu ∧ (closeSet last s).cst = s.cst
    ∧ (closeSet last s).ckm = s.ckm ∧ (closeSet last s).pru = s.pru ∧ (closeSet last s).lki = s.lki
    ∧ (closeSet last s).pins = s.pins ∧ (closeSet last s).pending = s.pending := by
  unfold closeSet
  split
  · simp
  · dsimp only
    split <;> simp

/-- `closeSetByRequest` touches only sve. -/
@[simp] theorem closeSetByRequest_frame (s : State) :
    (closeSetByRequest s).tmb = s.tmb ∧ (closeSetByRequest s).lsq = s.lsq ∧ (closeSetByRequest s).asa = s.asa
    ∧ (closeSetByRequest s).cau = s.cau ∧ (closeSetByRequest s).ssu = s.ssu ∧ (closeSetByRequest s).cst = s.cst
    ∧ (closeSetByRequest s).ckm = s.ckm ∧ (closeSetByRequest s).pru = s.pru ∧ (closeSetByRequest s).lki = s.lki
    ∧ (closeSetByRequest s).pins = s.pins ∧ (closeSetByRequest s).pending = s.pending := by
  simp [closeSetByRequest]

/-- `startPlanCollection` touches only sve. -/
@[simp] theorem startPlanCollection_frame (i : Fin 64) (s : State) :
    (startPlanCollection i s).tmb = s.tmb ∧ (startPlanCollection i s).lsq = s.lsq
    ∧ (startPlanCollection i s).asa = s.asa ∧ (startPlanCollection i s).cau = s.cau
    ∧ (startPlanCollection i s).ssu = s.ssu ∧ (startPlanCollection i s).cst = s.cst
    ∧ (startPlanCollection i s).ckm = s.ckm ∧ (startPlanCollection i s).pru = s.pru
    ∧ (startPlanCollection i s).lki = s.lki ∧ (startPlanCollection i s).pins = s.pins
    ∧ (startPlanCollection i s).pending = s.pending := by
  unfold startPlanCollection
  split <;> simp

/-- `triggerBy` touches only sve. -/
@[simp] theorem triggerBy_frame (gate : Bool) (i : Fin 64) (s : State) :
    (triggerBy gate i s).tmb = s.tmb ∧ (triggerBy gate i s).lsq = s.lsq ∧ (triggerBy gate i s).asa = s.asa
    ∧ (triggerBy gate i s).cau = s.cau ∧ (triggerBy gate i s).ssu = s.ssu ∧ (triggerBy gate i s).cst = s.cst
    ∧ (triggerBy gate i s).ckm = s.ckm ∧ (triggerBy gate i s).pru = s.pru ∧ (triggerBy gate i s).lki = s.lki
    ∧ (triggerBy gate i s).pins = s.pins ∧ (triggerBy gate i s).pending = s.pending := by
  unfold triggerBy
  dsimp only
  split
  · split <;> simp
  · simp

/-- `becomeCurrent` touches only sve. -/
@[simp] theorem becomeCurrent_frame (i : Fin 64) (s : State) :
    (becomeCurrent i s).tmb = s.tmb ∧ (becomeCurrent i s).lsq = s.lsq ∧ (becomeCurrent i s).asa = s.asa
    ∧ (becomeCurrent i s).cau = s.cau ∧ (becomeCurrent i s).ssu = s.ssu ∧ (becomeCurrent i s).cst = s.cst
    ∧ (becomeCurrent i s).ckm = s.ckm ∧ (becomeCurrent i s).pru = s.pru ∧ (becomeCurrent i s).lki = s.lki
    ∧ (becomeCurrent i s).pins = s.pins ∧ (becomeCurrent i s).pending = s.pending := by
  unfold becomeCurrent
  dsimp only
  split
  · simp
  · split
    · simp
    · split <;> simp
    · split <;> simp
    · simp

/-- `moveOn` touches only sve, lki. -/
@[simp] theorem moveOn_frame (i : Fin 64) (s : State) :
    (moveOn i s).tmb = s.tmb ∧ (moveOn i s).lsq = s.lsq ∧ (moveOn i s).asa = s.asa ∧ (moveOn i s).cau = s.cau
    ∧ (moveOn i s).ssu = s.ssu ∧ (moveOn i s).cst = s.cst ∧ (moveOn i s).ckm = s.ckm ∧ (moveOn i s).pru = s.pru
    ∧ (moveOn i s).pins = s.pins ∧ (moveOn i s).pending = s.pending := by
  unfold moveOn
  split
  · simp
  · split
    · simp
    · split <;> simp

/-- `endControl` touches only sve, lki. -/
@[simp] theorem endControl_frame (i : Fin 64) (s : State) :
    (endControl i s).tmb = s.tmb ∧ (endControl i s).lsq = s.lsq ∧ (endControl i s).asa = s.asa
    ∧ (endControl i s).cau = s.cau ∧ (endControl i s).ssu = s.ssu ∧ (endControl i s).cst = s.cst
    ∧ (endControl i s).ckm = s.ckm ∧ (endControl i s).pru = s.pru ∧ (endControl i s).pins = s.pins
    ∧ (endControl i s).pending = s.pending := by
  unfold endControl
  split
  · split <;> simp
  · split
    · split <;> simp
    · simp

/-- `completeFields` touches only sve, lki. -/
@[simp] theorem completeFields_frame (i : Fin 64) (res : EntryResult) (no : Nat) (s : State) :
    (completeFields i res no s).tmb = s.tmb ∧ (completeFields i res no s).lsq = s.lsq
    ∧ (completeFields i res no s).asa = s.asa ∧ (completeFields i res no s).cau = s.cau
    ∧ (completeFields i res no s).ssu = s.ssu ∧ (completeFields i res no s).cst = s.cst
    ∧ (completeFields i res no s).ckm = s.ckm ∧ (completeFields i res no s).pru = s.pru
    ∧ (completeFields i res no s).pins = s.pins ∧ (completeFields i res no s).pending = s.pending := by
  unfold completeFields
  split
  · simp
  · dsimp only
    (repeat' split) <;> simp

/-- `completeEntry` touches only sve, lki. -/
@[simp] theorem completeEntry_frame (i : Fin 64) (res : EntryResult) (no : Nat) (s : State) :
    (completeEntry i res no s).tmb = s.tmb ∧ (completeEntry i res no s).lsq = s.lsq
    ∧ (completeEntry i res no s).asa = s.asa ∧ (completeEntry i res no s).cau = s.cau
    ∧ (completeEntry i res no s).ssu = s.ssu ∧ (completeEntry i res no s).cst = s.cst
    ∧ (completeEntry i res no s).ckm = s.ckm ∧ (completeEntry i res no s).pru = s.pru
    ∧ (completeEntry i res no s).pins = s.pins ∧ (completeEntry i res no s).pending = s.pending := by
  simp [completeEntry]

/-- `spoilDemand` touches only sve. -/
@[simp] theorem spoilDemand_frame (g : Fin 256) (s : State) :
    (spoilDemand g s).tmb = s.tmb ∧ (spoilDemand g s).lsq = s.lsq ∧ (spoilDemand g s).asa = s.asa
    ∧ (spoilDemand g s).cau = s.cau ∧ (spoilDemand g s).ssu = s.ssu ∧ (spoilDemand g s).cst = s.cst
    ∧ (spoilDemand g s).ckm = s.ckm ∧ (spoilDemand g s).pru = s.pru ∧ (spoilDemand g s).lki = s.lki
    ∧ (spoilDemand g s).pins = s.pins ∧ (spoilDemand g s).pending = s.pending := by
  unfold spoilDemand
  split <;> simp

/-- `handOver` touches only ssu, sve, pru. -/
@[simp] theorem handOver_frame (c : Collection) (p : Int) (s : State) (g : CollGauge) :
    ((handOver c p s g).1).tmb = s.tmb ∧ ((handOver c p s g).1).lsq = s.lsq ∧ ((handOver c p s g).1).asa = s.asa
    ∧ ((handOver c p s g).1).cau = s.cau ∧ ((handOver c p s g).1).cst = s.cst ∧ ((handOver c p s g).1).ckm = s.ckm
    ∧ ((handOver c p s g).1).lki = s.lki ∧ ((handOver c p s g).1).pins = s.pins
    ∧ ((handOver c p s g).1).pending = s.pending := by
  unfold handOver
  dsimp only
  split <;> simp

/-- `handOverAll` touches only ssu, sve, pru. -/
@[simp] theorem handOverAll_frame (c : Collection) (p : Int) (l : List CollGauge) (s : State) :
    ((handOverAll c p l s).1).tmb = s.tmb ∧ ((handOverAll c p l s).1).lsq = s.lsq
    ∧ ((handOverAll c p l s).1).asa = s.asa ∧ ((handOverAll c p l s).1).cau = s.cau
    ∧ ((handOverAll c p l s).1).cst = s.cst ∧ ((handOverAll c p l s).1).ckm = s.ckm
    ∧ ((handOverAll c p l s).1).lki = s.lki ∧ ((handOverAll c p l s).1).pins = s.pins
    ∧ ((handOverAll c p l s).1).pending = s.pending := by
  induction l generalizing s with
  | nil => simp [handOverAll]
  | cons g gs ih => simp [handOverAll, ih]

/-- `surveyRecord` touches only ssu, sve, pru. -/
@[simp] theorem surveyRecord_frame (src : Source) (c : Collection) (s : State) :
    ((surveyRecord src c s).1).tmb = s.tmb ∧ ((surveyRecord src c s).1).lsq = s.lsq
    ∧ ((surveyRecord src c s).1).asa = s.asa ∧ ((surveyRecord src c s).1).cau = s.cau
    ∧ ((surveyRecord src c s).1).cst = s.cst ∧ ((surveyRecord src c s).1).ckm = s.ckm
    ∧ ((surveyRecord src c s).1).lki = s.lki ∧ ((surveyRecord src c s).1).pins = s.pins
    ∧ ((surveyRecord src c s).1).pending = s.pending := by
  simp [surveyRecord]

/-- `offerPlanRecord` touches only lsq, sve, cst, lki. -/
@[simp] theorem offerPlanRecord_frame (i : Fin 64) (b : RecordBody) (res : EntryResult) (s : State) :
    (offerPlanRecord i b res s).tmb = s.tmb ∧ (offerPlanRecord i b res s).asa = s.asa
    ∧ (offerPlanRecord i b res s).cau = s.cau ∧ (offerPlanRecord i b res s).ssu = s.ssu
    ∧ (offerPlanRecord i b res s).ckm = s.ckm ∧ (offerPlanRecord i b res s).pru = s.pru
    ∧ (offerPlanRecord i b res s).pins = s.pins ∧ (offerPlanRecord i b res s).pending = s.pending := by
  have h := offerRecord_frame b s
  unfold offerPlanRecord
  split
  · rename_i s' n e
    simp only [e] at h
    simp [h]
  · rename_i s' e
    simp only [e] at h
    simp [h]

/-- `endPlanCollection` touches only lsq, ssu, sve, cst, pru, lki. -/
@[simp] theorem endPlanCollection_frame (s : State) :
    (endPlanCollection s).tmb = s.tmb ∧ (endPlanCollection s).asa = s.asa ∧ (endPlanCollection s).cau = s.cau
    ∧ (endPlanCollection s).ckm = s.ckm ∧ (endPlanCollection s).pins = s.pins
    ∧ (endPlanCollection s).pending = s.pending := by
  unfold endPlanCollection
  split
  · dsimp only
    split <;> simp
  · simp

/-- `planAdvance` touches only lsq, ssu, sve, cst, pru, lki. -/
@[simp] theorem planAdvance_frame (due : Sve → Bool) (n : Nat) (s : State) :
    (planAdvance due n s).tmb = s.tmb ∧ (planAdvance due n s).asa = s.asa ∧ (planAdvance due n s).cau = s.cau
    ∧ (planAdvance due n s).ckm = s.ckm ∧ (planAdvance due n s).pins = s.pins
    ∧ (planAdvance due n s).pending = s.pending := by
  induction n generalizing s with
  | zero => unfold planAdvance; split <;> simp
  | succ n ih => unfold planAdvance; split <;> simp [ih]

/-- `runPlan` touches only lsq, ssu, sve, cst, pru, lki. -/
@[simp] theorem runPlan_frame (s : State) :
    (runPlan s).tmb = s.tmb ∧ (runPlan s).asa = s.asa ∧ (runPlan s).cau = s.cau ∧ (runPlan s).ckm = s.ckm
    ∧ (runPlan s).pins = s.pins ∧ (runPlan s).pending = s.pending := by
  simp [runPlan]

/-- `runRefused` touches only lsq, ssu, sve, cst, pru, lki. -/
@[simp] theorem runRefused_frame (s : State) :
    (runRefused s).tmb = s.tmb ∧ (runRefused s).asa = s.asa ∧ (runRefused s).cau = s.cau
    ∧ (runRefused s).ckm = s.ckm ∧ (runRefused s).pins = s.pins ∧ (runRefused s).pending = s.pending := by
  simp [runRefused]

/-- `startDemand` touches only sve. -/
@[simp] theorem startDemand_frame (s : State) :
    (startDemand s).tmb = s.tmb ∧ (startDemand s).lsq = s.lsq ∧ (startDemand s).asa = s.asa
    ∧ (startDemand s).cau = s.cau ∧ (startDemand s).ssu = s.ssu ∧ (startDemand s).cst = s.cst
    ∧ (startDemand s).ckm = s.ckm ∧ (startDemand s).pru = s.pru ∧ (startDemand s).lki = s.lki
    ∧ (startDemand s).pins = s.pins ∧ (startDemand s).pending = s.pending := by
  unfold startDemand
  split <;> simp

/-- `answerDemand` touches only lki. -/
@[simp] theorem answerDemand_frame (r : DemandReq) (res : EntryResult) (no : Nat) (s : State) :
    (answerDemand r res no s).tmb = s.tmb ∧ (answerDemand r res no s).lsq = s.lsq
    ∧ (answerDemand r res no s).asa = s.asa ∧ (answerDemand r res no s).cau = s.cau
    ∧ (answerDemand r res no s).ssu = s.ssu ∧ (answerDemand r res no s).sve = s.sve
    ∧ (answerDemand r res no s).cst = s.cst ∧ (answerDemand r res no s).ckm = s.ckm
    ∧ (answerDemand r res no s).pru = s.pru ∧ (answerDemand r res no s).pins = s.pins
    ∧ (answerDemand r res no s).pending = s.pending := by
  unfold answerDemand
  split
  · simp
  · split <;> simp

/-- `leaveDemand` touches only sve, lki. -/
@[simp] theorem leaveDemand_frame (res : EntryResult) (no : Nat) (s : State) :
    (leaveDemand res no s).tmb = s.tmb ∧ (leaveDemand res no s).lsq = s.lsq ∧ (leaveDemand res no s).asa = s.asa
    ∧ (leaveDemand res no s).cau = s.cau ∧ (leaveDemand res no s).ssu = s.ssu ∧ (leaveDemand res no s).cst = s.cst
    ∧ (leaveDemand res no s).ckm = s.ckm ∧ (leaveDemand res no s).pru = s.pru ∧ (leaveDemand res no s).pins = s.pins
    ∧ (leaveDemand res no s).pending = s.pending := by
  unfold leaveDemand
  split <;> simp

/-- `endDemandCollection` touches only lsq, ssu, sve, cst, pru, lki. -/
@[simp] theorem endDemandCollection_frame (c : Collection) (s : State) :
    (endDemandCollection c s).tmb = s.tmb ∧ (endDemandCollection c s).asa = s.asa
    ∧ (endDemandCollection c s).cau = s.cau ∧ (endDemandCollection c s).ckm = s.ckm
    ∧ (endDemandCollection c s).pins = s.pins ∧ (endDemandCollection c s).pending = s.pending := by
  unfold endDemandCollection
  split
  · simp
  · rename_i r rest hr
    dsimp only
    have h2 := offerRecord_frame (.survey (surveyRecord (.demand r.link r.tag) c (s.updSve fun v => { v with work := .idle })).2)
      (surveyRecord (.demand r.link r.tag) c (s.updSve fun v => { v with work := .idle })).1
    split
    · rename_i s' n e
      simp only [e] at h2
      simp [h2]
    · rename_i s' e
      simp only [e] at h2
      simp [h2]

/-- `demandAdvance` touches only lsq, ssu, sve, cst, pru, lki. -/
@[simp] theorem demandAdvance_frame (n : Nat) (s : State) :
    (demandAdvance n s).tmb = s.tmb ∧ (demandAdvance n s).asa = s.asa ∧ (demandAdvance n s).cau = s.cau
    ∧ (demandAdvance n s).ckm = s.ckm ∧ (demandAdvance n s).pins = s.pins ∧ (demandAdvance n s).pending = s.pending := by
  induction n generalizing s with
  | zero => simp [demandAdvance]
  | succ n ih =>
    unfold demandAdvance
    split
    · split <;> simp [ih]
    · simp

/-- `runDemand` touches only lsq, ssu, sve, cst, pru, lki. -/
@[simp] theorem runDemand_frame (s : State) :
    (runDemand s).tmb = s.tmb ∧ (runDemand s).asa = s.asa ∧ (runDemand s).cau = s.cau ∧ (runDemand s).ckm = s.ckm
    ∧ (runDemand s).pins = s.pins ∧ (runDemand s).pending = s.pending := by
  simp [runDemand]

/-- `announceSegment` touches only lsq, ssu, sve, cst, pru, lki. -/
@[simp] theorem announceSegment_frame (gate : Bool) (s : State) :
    (announceSegment gate s).tmb = s.tmb ∧ (announceSegment gate s).asa = s.asa
    ∧ (announceSegment gate s).cau = s.cau ∧ (announceSegment gate s).ckm = s.ckm
    ∧ (announceSegment gate s).pins = s.pins ∧ (announceSegment gate s).pending = s.pending := by
  unfold announceSegment
  dsimp only
  (repeat' split) <;> simp

/-- `settleStage` touches only lsq, ssu, sve, cst, pru, lki. -/
@[simp] theorem settleStage_frame (s : State) :
    (settleStage s).tmb = s.tmb ∧ (settleStage s).asa = s.asa ∧ (settleStage s).cau = s.cau
    ∧ (settleStage s).ckm = s.ckm ∧ (settleStage s).pins = s.pins ∧ (settleStage s).pending = s.pending := by
  unfold settleStage
  split
  · split
    · simp
    · dsimp only
      split <;> simp
  · simp

/-- `announceWindow` touches only sve. -/
@[simp] theorem announceWindow_frame (s : State) :
    (announceWindow s).tmb = s.tmb ∧ (announceWindow s).lsq = s.lsq ∧ (announceWindow s).asa = s.asa
    ∧ (announceWindow s).cau = s.cau ∧ (announceWindow s).ssu = s.ssu ∧ (announceWindow s).cst = s.cst
    ∧ (announceWindow s).ckm = s.ckm ∧ (announceWindow s).pru = s.pru ∧ (announceWindow s).lki = s.lki
    ∧ (announceWindow s).pins = s.pins ∧ (announceWindow s).pending = s.pending := by
  unfold announceWindow
  split
  · simp
  · split <;> simp

/-- `addLoads` touches only sve. -/
@[simp] theorem addLoads_frame (s : State) :
    (addLoads s).tmb = s.tmb ∧ (addLoads s).lsq = s.lsq ∧ (addLoads s).asa = s.asa ∧ (addLoads s).cau = s.cau
    ∧ (addLoads s).ssu = s.ssu ∧ (addLoads s).cst = s.cst ∧ (addLoads s).ckm = s.ckm ∧ (addLoads s).pru = s.pru
    ∧ (addLoads s).lki = s.lki ∧ (addLoads s).pins = s.pins ∧ (addLoads s).pending = s.pending := by
  simp [addLoads]

/-- `endRange` touches only lsq, ssu, sve, cst, pru, lki. -/
@[simp] theorem endRange_frame (i : Fin 64) (c : Collection) (n : Nat) (s : State) :
    (endRange i c n s).tmb = s.tmb ∧ (endRange i c n s).asa = s.asa ∧ (endRange i c n s).cau = s.cau
    ∧ (endRange i c n s).ckm = s.ckm ∧ (endRange i c n s).pins = s.pins ∧ (endRange i c n s).pending = s.pending := by
  simp [endRange]

/-- `announceCompletion` touches only lsq, ssu, sve, cst, pru, lki. -/
@[simp] theorem announceCompletion_frame (n : Nat) (s : State) :
    (announceCompletion n s).tmb = s.tmb ∧ (announceCompletion n s).asa = s.asa
    ∧ (announceCompletion n s).cau = s.cau ∧ (announceCompletion n s).ckm = s.ckm
    ∧ (announceCompletion n s).pins = s.pins ∧ (announceCompletion n s).pending = s.pending := by
  unfold announceCompletion
  split
  · simp
  · split
    · simp
    · split <;> simp
    · simp

/-- `offerScan` touches only lsq, ssu, sve, cst, pru, lki. -/
@[simp] theorem offerScan_frame (v : List OfferVal) (s : State) :
    (offerScan v s).tmb = s.tmb ∧ (offerScan v s).asa = s.asa ∧ (offerScan v s).cau = s.cau
    ∧ (offerScan v s).ckm = s.ckm ∧ (offerScan v s).pins = s.pins ∧ (offerScan v s).pending = s.pending := by
  simp [offerScan]

/-- `tellSilence` touches only lsq, ssu, sve, cst, pru, lki. -/
@[simp] theorem tellSilence_frame (l : List (Fin 256)) (s : State) :
    (tellSilence l s).tmb = s.tmb ∧ (tellSilence l s).asa = s.asa ∧ (tellSilence l s).cau = s.cau
    ∧ (tellSilence l s).ckm = s.ckm ∧ (tellSilence l s).pins = s.pins ∧ (tellSilence l s).pending = s.pending := by
  simp [tellSilence]

/-- `abortPlan` touches only lsq, sve, cst, lki. -/
@[simp] theorem abortPlan_frame (s : State) :
    (abortPlan s).tmb = s.tmb ∧ (abortPlan s).asa = s.asa ∧ (abortPlan s).cau = s.cau ∧ (abortPlan s).ssu = s.ssu
    ∧ (abortPlan s).ckm = s.ckm ∧ (abortPlan s).pru = s.pru ∧ (abortPlan s).pins = s.pins
    ∧ (abortPlan s).pending = s.pending := by
  unfold abortPlan
  split
  · split
    · simp
    · dsimp only
      split <;> simp
  · simp

/-- `abortDemand` touches only lsq, ssu, sve, cst, pru, lki. -/
@[simp] theorem abortDemand_frame (s : State) :
    (abortDemand s).tmb = s.tmb ∧ (abortDemand s).asa = s.asa ∧ (abortDemand s).cau = s.cau
    ∧ (abortDemand s).ckm = s.ckm ∧ (abortDemand s).pins = s.pins ∧ (abortDemand s).pending = s.pending := by
  unfold abortDemand
  split <;> simp

/-- `abortSurveys` touches only lsq, ssu, sve, cst, pru, lki. -/
@[simp] theorem abortSurveys_frame (s : State) :
    (abortSurveys s).tmb = s.tmb ∧ (abortSurveys s).asa = s.asa ∧ (abortSurveys s).cau = s.cau
    ∧ (abortSurveys s).ckm = s.ckm ∧ (abortSurveys s).pins = s.pins ∧ (abortSurveys s).pending = s.pending := by
  simp [abortSurveys]

/-- `stopPlan` touches only lsq, sve, cst, lki. -/
@[simp] theorem stopPlan_frame (s : State) :
    (stopPlan s).tmb = s.tmb ∧ (stopPlan s).asa = s.asa ∧ (stopPlan s).cau = s.cau ∧ (stopPlan s).ssu = s.ssu
    ∧ (stopPlan s).ckm = s.ckm ∧ (stopPlan s).pru = s.pru ∧ (stopPlan s).pins = s.pins
    ∧ (stopPlan s).pending = s.pending := by
  unfold stopPlan
  dsimp only
  split
  · split <;> simp
  · simp

/-- `completeStalled` touches only lsq, ssu, sve, cst, pru, lki. -/
@[simp] theorem completeStalled_frame (w : Collector) (n : Nat) (s : State) :
    (completeStalled w n s).tmb = s.tmb ∧ (completeStalled w n s).asa = s.asa ∧ (completeStalled w n s).cau = s.cau
    ∧ (completeStalled w n s).ckm = s.ckm ∧ (completeStalled w n s).pins = s.pins
    ∧ (completeStalled w n s).pending = s.pending := by
  unfold completeStalled
  split <;> split <;> simp

/-- `admitStalled` touches only lsq, ssu, sve, cst, pru, lki. -/
@[simp] theorem admitStalled_frame (n : Nat) (s : State) :
    ((admitStalled n s).1).tmb = s.tmb ∧ ((admitStalled n s).1).asa = s.asa ∧ ((admitStalled n s).1).cau = s.cau
    ∧ ((admitStalled n s).1).ckm = s.ckm ∧ ((admitStalled n s).1).pins = s.pins
    ∧ ((admitStalled n s).1).pending = s.pending := by
  induction n generalizing s with
  | zero => simp [admitStalled]
  | succ n ih =>
    unfold admitStalled
    split
    · simp
    · split
      · simp [ih]
      · split
        · simp [ih]
        · simp

/-- `resumeCollector` touches only lsq, ssu, sve, cst, pru, lki. -/
@[simp] theorem resumeCollector_frame (s : State) (w : Collector) :
    (resumeCollector s w).tmb = s.tmb ∧ (resumeCollector s w).asa = s.asa ∧ (resumeCollector s w).cau = s.cau
    ∧ (resumeCollector s w).ckm = s.ckm ∧ (resumeCollector s w).pins = s.pins
    ∧ (resumeCollector s w).pending = s.pending := by
  cases w <;> simp [resumeCollector]

theorem resumeAll_frame (l : List Collector) (s : State) :
    let t := l.foldl resumeCollector s
    t.tmb = s.tmb ∧ t.asa = s.asa ∧ t.cau = s.cau ∧ t.ckm = s.ckm ∧ t.pins = s.pins ∧ t.pending = s.pending := by
  induction l generalizing s with
  | nil => simp
  | cons e l ih => simp [ih]

/-- `serveStalls` touches only lsq, ssu, sve, cst, pru, lki. -/
@[simp] theorem serveStalls_frame (s : State) :
    (serveStalls s).tmb = s.tmb ∧ (serveStalls s).asa = s.asa ∧ (serveStalls s).cau = s.cau
    ∧ (serveStalls s).ckm = s.ckm ∧ (serveStalls s).pins = s.pins ∧ (serveStalls s).pending = s.pending := by
  have h := resumeAll_frame (admitStalled s.cst.stalls.length s).2
    (evaluateStoreClaim (admitStalled s.cst.stalls.length s).1)
  simpa [serveStalls] using h

/-- `setPru` touches only pru. -/
@[simp] theorem setPru_frame (p : PState) (s : State) :
    (setPru p s).tmb = s.tmb ∧ (setPru p s).lsq = s.lsq ∧ (setPru p s).asa = s.asa ∧ (setPru p s).cau = s.cau
    ∧ (setPru p s).ssu = s.ssu ∧ (setPru p s).sve = s.sve ∧ (setPru p s).cst = s.cst ∧ (setPru p s).ckm = s.ckm
    ∧ (setPru p s).lki = s.lki ∧ (setPru p s).pins = s.pins ∧ (setPru p s).pending = s.pending := by
  simp [setPru]

/-- `closeWindow` touches only cau. -/
@[simp] theorem closeWindow_frame (s : State) :
    (closeWindow s).tmb = s.tmb ∧ (closeWindow s).lsq = s.lsq ∧ (closeWindow s).asa = s.asa
    ∧ (closeWindow s).ssu = s.ssu ∧ (closeWindow s).sve = s.sve ∧ (closeWindow s).cst = s.cst
    ∧ (closeWindow s).ckm = s.ckm ∧ (closeWindow s).pru = s.pru ∧ (closeWindow s).lki = s.lki
    ∧ (closeWindow s).pins = s.pins ∧ (closeWindow s).pending = s.pending := by
  simp [closeWindow]

/-- `offerSnapshot` touches only cst, lki. -/
@[simp] theorem offerSnapshot_frame (p : PState) (l : Level) (s : State) :
    ((offerSnapshot p l s).1).tmb = s.tmb ∧ ((offerSnapshot p l s).1).lsq = s.lsq
    ∧ ((offerSnapshot p l s).1).asa = s.asa ∧ ((offerSnapshot p l s).1).cau = s.cau
    ∧ ((offerSnapshot p l s).1).ssu = s.ssu ∧ ((offerSnapshot p l s).1).sve = s.sve
    ∧ ((offerSnapshot p l s).1).ckm = s.ckm ∧ ((offerSnapshot p l s).1).pru = s.pru
    ∧ ((offerSnapshot p l s).1).pins = s.pins ∧ ((offerSnapshot p l s).1).pending = s.pending := by
  simp [offerSnapshot]

/-- `raiseAlarm` touches only lki. -/
@[simp] theorem raiseAlarm_frame (p : PState) (x : Option (Option Nat)) (c : List (CauseKind × List Nat)) (s : State) :
    (raiseAlarm p x c s).tmb = s.tmb ∧ (raiseAlarm p x c s).lsq = s.lsq ∧ (raiseAlarm p x c s).asa = s.asa
    ∧ (raiseAlarm p x c s).cau = s.cau ∧ (raiseAlarm p x c s).ssu = s.ssu ∧ (raiseAlarm p x c s).sve = s.sve
    ∧ (raiseAlarm p x c s).cst = s.cst ∧ (raiseAlarm p x c s).ckm = s.ckm ∧ (raiseAlarm p x c s).pru = s.pru
    ∧ (raiseAlarm p x c s).pins = s.pins ∧ (raiseAlarm p x c s).pending = s.pending := by
  simp [raiseAlarm]

/-- `enterHolding` touches only lsq, pru, lki. -/
@[simp] theorem enterHolding_frame (s : State) :
    (enterHolding s).tmb = s.tmb ∧ (enterHolding s).asa = s.asa ∧ (enterHolding s).cau = s.cau
    ∧ (enterHolding s).ssu = s.ssu ∧ (enterHolding s).sve = s.sve ∧ (enterHolding s).cst = s.cst
    ∧ (enterHolding s).ckm = s.ckm ∧ (enterHolding s).pins = s.pins ∧ (enterHolding s).pending = s.pending := by
  simp [enterHolding]

/-- `enterUnloading` touches only lsq, asa, cau, ssu, sve, cst, pru, lki. -/
@[simp] theorem enterUnloading_frame (s : State) :
    (enterUnloading s).tmb = s.tmb ∧ (enterUnloading s).ckm = s.ckm ∧ (enterUnloading s).pins = s.pins
    ∧ (enterUnloading s).pending = s.pending := by
  simp [enterUnloading]

/-- `enterDumped` touches only lsq, asa, cau, ssu, sve, cst, pru, lki. -/
@[simp] theorem enterDumped_frame (s : State) :
    (enterDumped s).tmb = s.tmb ∧ (enterDumped s).ckm = s.ckm ∧ (enterDumped s).pins = s.pins
    ∧ (enterDumped s).pending = s.pending := by
  simp [enterDumped]

/-- `enter` touches only lsq, asa, cau, ssu, sve, cst, pru, lki. -/
@[simp] theorem enter_frame (p : PState) (l : Level) (s : State) :
    ((enter p l s).1).tmb = s.tmb ∧ ((enter p l s).1).ckm = s.ckm ∧ ((enter p l s).1).pins = s.pins
    ∧ ((enter p l s).1).pending = s.pending := by
  unfold enter
  dsimp only
  split <;> simp

/-- `evaluate` touches only lsq, asa, cau, ssu, sve, cst, pru, lki. -/
@[simp] theorem evaluate_frame (c : List (CauseKind × List Nat)) (s : State) :
    (evaluate c s).tmb = s.tmb ∧ (evaluate c s).ckm = s.ckm ∧ (evaluate c s).pins = s.pins
    ∧ (evaluate c s).pending = s.pending := by
  unfold evaluate
  split
  · simp
  · split <;> simp

/-- `startReport` touches only lsq, asa, cau, ssu, sve, cst, pru, lki. -/
@[simp] theorem startReport_frame (k : CauseKind) (x : Nat) (s : State) :
    (startReport k x s).tmb = s.tmb ∧ (startReport k x s).ckm = s.ckm ∧ (startReport k x s).pins = s.pins
    ∧ (startReport k x s).pending = s.pending := by
  unfold startReport
  dsimp only
  split <;> simp

/-- `eventReport` touches only lsq, asa, cau, ssu, sve, cst, pru, lki. -/
@[simp] theorem eventReport_frame (k : CauseKind) (x : List Nat) (s : State) :
    (eventReport k x s).tmb = s.tmb ∧ (eventReport k x s).ckm = s.ckm ∧ (eventReport k x s).pins = s.pins
    ∧ (eventReport k x s).pending = s.pending := by
  unfold eventReport
  dsimp only
  split <;> simp

/-- `takeReport` touches only lsq, asa, cau, ssu, sve, cst, pru, lki. -/
@[simp] theorem takeReport_frame (s : State) (r : Report) :
    (takeReport s r).tmb = s.tmb ∧ (takeReport s r).ckm = s.ckm ∧ (takeReport s r).pins = s.pins
    ∧ (takeReport s r).pending = s.pending := by
  unfold takeReport
  split <;> simp

/-- `takeReports` touches only lsq, asa, cau, ssu, sve, cst, pru, lki. -/
@[simp] theorem takeReports_frame (l : List Report) (s : State) :
    (takeReports l s).tmb = s.tmb ∧ (takeReports l s).ckm = s.ckm ∧ (takeReports l s).pins = s.pins
    ∧ (takeReports l s).pending = s.pending := by
  unfold takeReports
  induction l generalizing s with
  | nil => simp
  | cons r l ih => simp [ih]

/-- `takeFeedback` touches only asa. -/
@[simp] theorem takeFeedback_frame (c : List FeedbackIn) (s : State) :
    (takeFeedback c s).tmb = s.tmb ∧ (takeFeedback c s).lsq = s.lsq ∧ (takeFeedback c s).cau = s.cau
    ∧ (takeFeedback c s).ssu = s.ssu ∧ (takeFeedback c s).sve = s.sve ∧ (takeFeedback c s).cst = s.cst
    ∧ (takeFeedback c s).ckm = s.ckm ∧ (takeFeedback c s).pru = s.pru ∧ (takeFeedback c s).lki = s.lki
    ∧ (takeFeedback c s).pins = s.pins ∧ (takeFeedback c s).pending = s.pending := by
  simp [takeFeedback]

/-- `checkFrames` touches only asa. -/
@[simp] theorem checkFrames_frame (b : Bool) (s : State) :
    (checkFrames b s).tmb = s.tmb ∧ (checkFrames b s).lsq = s.lsq ∧ (checkFrames b s).cau = s.cau
    ∧ (checkFrames b s).ssu = s.ssu ∧ (checkFrames b s).sve = s.sve ∧ (checkFrames b s).cst = s.cst
    ∧ (checkFrames b s).ckm = s.ckm ∧ (checkFrames b s).pru = s.pru ∧ (checkFrames b s).lki = s.lki
    ∧ (checkFrames b s).pins = s.pins ∧ (checkFrames b s).pending = s.pending := by
  simp [checkFrames]

/-- `missingStage` touches only asa. -/
@[simp] theorem missingStage_frame (s : State) :
    (missingStage s).tmb = s.tmb ∧ (missingStage s).lsq = s.lsq ∧ (missingStage s).cau = s.cau
    ∧ (missingStage s).ssu = s.ssu ∧ (missingStage s).sve = s.sve ∧ (missingStage s).cst = s.cst
    ∧ (missingStage s).ckm = s.ckm ∧ (missingStage s).pru = s.pru ∧ (missingStage s).lki = s.lki
    ∧ (missingStage s).pins = s.pins ∧ (missingStage s).pending = s.pending := by
  simp [missingStage]

/-- `setpointStage` touches only asa. -/
@[simp] theorem setpointStage_frame (b : Bool) (s : State) :
    (setpointStage b s).tmb = s.tmb ∧ (setpointStage b s).lsq = s.lsq ∧ (setpointStage b s).cau = s.cau
    ∧ (setpointStage b s).ssu = s.ssu ∧ (setpointStage b s).sve = s.sve ∧ (setpointStage b s).cst = s.cst
    ∧ (setpointStage b s).ckm = s.ckm ∧ (setpointStage b s).pru = s.pru ∧ (setpointStage b s).lki = s.lki
    ∧ (setpointStage b s).pins = s.pins ∧ (setpointStage b s).pending = s.pending := by
  simp [setpointStage]

/-- `checkStage` touches only asa. -/
@[simp] theorem checkStage_frame (b : Bool) (s : State) :
    (checkStage b s).tmb = s.tmb ∧ (checkStage b s).lsq = s.lsq ∧ (checkStage b s).cau = s.cau
    ∧ (checkStage b s).ssu = s.ssu ∧ (checkStage b s).sve = s.sve ∧ (checkStage b s).cst = s.cst
    ∧ (checkStage b s).ckm = s.ckm ∧ (checkStage b s).pru = s.pru ∧ (checkStage b s).lki = s.lki
    ∧ (checkStage b s).pins = s.pins ∧ (checkStage b s).pending = s.pending := by
  simp [checkStage]

/-- `servoStage` touches only asa. -/
@[simp] theorem servoStage_frame (b : Bool) (s : State) :
    (servoStage b s).tmb = s.tmb ∧ (servoStage b s).lsq = s.lsq ∧ (servoStage b s).cau = s.cau
    ∧ (servoStage b s).ssu = s.ssu ∧ (servoStage b s).sve = s.sve ∧ (servoStage b s).cst = s.cst
    ∧ (servoStage b s).ckm = s.ckm ∧ (servoStage b s).pru = s.pru ∧ (servoStage b s).lki = s.lki
    ∧ (servoStage b s).pins = s.pins ∧ (servoStage b s).pending = s.pending := by
  simp [servoStage]

/-- `loadStage` touches only asa. -/
@[simp] theorem loadStage_frame (s : State) :
    (loadStage s).tmb = s.tmb ∧ (loadStage s).lsq = s.lsq ∧ (loadStage s).cau = s.cau ∧ (loadStage s).ssu = s.ssu
    ∧ (loadStage s).sve = s.sve ∧ (loadStage s).cst = s.cst ∧ (loadStage s).ckm = s.ckm ∧ (loadStage s).pru = s.pru
    ∧ (loadStage s).lki = s.lki ∧ (loadStage s).pins = s.pins ∧ (loadStage s).pending = s.pending := by
  simp [loadStage]

/-- `checkedArray` touches only asa. -/
@[simp] theorem checkedArray_frame (s : State) :
    (checkedArray s).tmb = s.tmb ∧ (checkedArray s).lsq = s.lsq ∧ (checkedArray s).cau = s.cau
    ∧ (checkedArray s).ssu = s.ssu ∧ (checkedArray s).sve = s.sve ∧ (checkedArray s).cst = s.cst
    ∧ (checkedArray s).ckm = s.ckm ∧ (checkedArray s).pru = s.pru ∧ (checkedArray s).lki = s.lki
    ∧ (checkedArray s).pins = s.pins ∧ (checkedArray s).pending = s.pending := by
  simp [checkedArray]

/-- `workArray` touches only asa. -/
@[simp] theorem workArray_frame (s : State) :
    (workArray s).tmb = s.tmb ∧ (workArray s).lsq = s.lsq ∧ (workArray s).cau = s.cau ∧ (workArray s).ssu = s.ssu
    ∧ (workArray s).sve = s.sve ∧ (workArray s).cst = s.cst ∧ (workArray s).ckm = s.ckm ∧ (workArray s).pru = s.pru
    ∧ (workArray s).lki = s.lki ∧ (workArray s).pins = s.pins ∧ (workArray s).pending = s.pending := by
  simp [workArray]

/-- `seedAtRest` touches only lsq, asa. -/
@[simp] theorem seedAtRest_frame (s : State) :
    (seedAtRest s).tmb = s.tmb ∧ (seedAtRest s).cau = s.cau ∧ (seedAtRest s).ssu = s.ssu
    ∧ (seedAtRest s).sve = s.sve ∧ (seedAtRest s).cst = s.cst ∧ (seedAtRest s).ckm = s.ckm
    ∧ (seedAtRest s).pru = s.pru ∧ (seedAtRest s).lki = s.lki ∧ (seedAtRest s).pins = s.pins
    ∧ (seedAtRest s).pending = s.pending := by
  simp [seedAtRest]

/-- `completeUnload` touches only lsq, asa, pru, lki. -/
@[simp] theorem completeUnload_frame (s : State) :
    (completeUnload s).tmb = s.tmb ∧ (completeUnload s).cau = s.cau ∧ (completeUnload s).ssu = s.ssu
    ∧ (completeUnload s).sve = s.sve ∧ (completeUnload s).cst = s.cst ∧ (completeUnload s).ckm = s.ckm
    ∧ (completeUnload s).pins = s.pins ∧ (completeUnload s).pending = s.pending := by
  simp [completeUnload]

/-- `succeed` touches only lsq, lki. -/
@[simp] theorem succeed_frame (n : Nat) (s : State) :
    (succeed n s).tmb = s.tmb ∧ (succeed n s).asa = s.asa ∧ (succeed n s).cau = s.cau ∧ (succeed n s).ssu = s.ssu
    ∧ (succeed n s).sve = s.sve ∧ (succeed n s).cst = s.cst ∧ (succeed n s).ckm = s.ckm ∧ (succeed n s).pru = s.pru
    ∧ (succeed n s).pins = s.pins ∧ (succeed n s).pending = s.pending := by
  unfold succeed
  split <;> simp

/-- `succeedNext` touches only lsq, lki. -/
@[simp] theorem succeedNext_frame (s : State) :
    (succeedNext s).tmb = s.tmb ∧ (succeedNext s).asa = s.asa ∧ (succeedNext s).cau = s.cau
    ∧ (succeedNext s).ssu = s.ssu ∧ (succeedNext s).sve = s.sve ∧ (succeedNext s).cst = s.cst
    ∧ (succeedNext s).ckm = s.ckm ∧ (succeedNext s).pru = s.pru ∧ (succeedNext s).pins = s.pins
    ∧ (succeedNext s).pending = s.pending := by
  simp [succeedNext]

/-- `updRunning` touches only lsq. -/
@[simp] theorem updRunning_frame (f : Running → Running) (s : State) :
    (updRunning f s).tmb = s.tmb ∧ (updRunning f s).asa = s.asa ∧ (updRunning f s).cau = s.cau
    ∧ (updRunning f s).ssu = s.ssu ∧ (updRunning f s).sve = s.sve ∧ (updRunning f s).cst = s.cst
    ∧ (updRunning f s).ckm = s.ckm ∧ (updRunning f s).pru = s.pru ∧ (updRunning f s).lki = s.lki
    ∧ (updRunning f s).pins = s.pins ∧ (updRunning f s).pending = s.pending := by
  simp [updRunning]

/-- `rampStep` touches only lsq, lki. -/
@[simp] theorem rampStep_frame (t : Int) (r : Nat) (s : State) :
    (rampStep t r s).tmb = s.tmb ∧ (rampStep t r s).asa = s.asa ∧ (rampStep t r s).cau = s.cau
    ∧ (rampStep t r s).ssu = s.ssu ∧ (rampStep t r s).sve = s.sve ∧ (rampStep t r s).cst = s.cst
    ∧ (rampStep t r s).ckm = s.ckm ∧ (rampStep t r s).pru = s.pru ∧ (rampStep t r s).pins = s.pins
    ∧ (rampStep t r s).pending = s.pending := by
  unfold rampStep
  dsimp only
  split <;> simp

/-- `holdEnd` touches only lsq, lki. -/
@[simp] theorem holdEnd_frame (d : Nat) (s : State) :
    (holdEnd d s).tmb = s.tmb ∧ (holdEnd d s).asa = s.asa ∧ (holdEnd d s).cau = s.cau ∧ (holdEnd d s).ssu = s.ssu
    ∧ (holdEnd d s).sve = s.sve ∧ (holdEnd d s).cst = s.cst ∧ (holdEnd d s).ckm = s.ckm ∧ (holdEnd d s).pru = s.pru
    ∧ (holdEnd d s).pins = s.pins ∧ (holdEnd d s).pending = s.pending := by
  unfold holdEnd
  (repeat' split) <;> simp

/-- `holdStep` touches only lsq, lki. -/
@[simp] theorem holdStep_frame (d : Nat) (s : State) :
    (holdStep d s).tmb = s.tmb ∧ (holdStep d s).asa = s.asa ∧ (holdStep d s).cau = s.cau
    ∧ (holdStep d s).ssu = s.ssu ∧ (holdStep d s).sve = s.sve ∧ (holdStep d s).cst = s.cst
    ∧ (holdStep d s).ckm = s.ckm ∧ (holdStep d s).pru = s.pru ∧ (holdStep d s).pins = s.pins
    ∧ (holdStep d s).pending = s.pending := by
  simp [holdStep]

/-- `cycleStep` touches only lsq, lki. -/
@[simp] theorem cycleStep_frame (r : Running) (v k : Int) (h n : Nat) (s : State) :
    ((cycleStep r v k h n s).1).tmb = s.tmb ∧ ((cycleStep r v k h n s).1).asa = s.asa
    ∧ ((cycleStep r v k h n s).1).cau = s.cau ∧ ((cycleStep r v k h n s).1).ssu = s.ssu
    ∧ ((cycleStep r v k h n s).1).sve = s.sve ∧ ((cycleStep r v k h n s).1).cst = s.cst
    ∧ ((cycleStep r v k h n s).1).ckm = s.ckm ∧ ((cycleStep r v k h n s).1).pru = s.pru
    ∧ ((cycleStep r v k h n s).1).pins = s.pins ∧ ((cycleStep r v k h n s).1).pending = s.pending := by
  unfold cycleStep
  dsimp only
  (repeat' split) <;> simp

/-- `markInterrupted` touches only lsq. -/
@[simp] theorem markInterrupted_frame (s : State) :
    (markInterrupted s).tmb = s.tmb ∧ (markInterrupted s).asa = s.asa ∧ (markInterrupted s).cau = s.cau
    ∧ (markInterrupted s).ssu = s.ssu ∧ (markInterrupted s).sve = s.sve ∧ (markInterrupted s).cst = s.cst
    ∧ (markInterrupted s).ckm = s.ckm ∧ (markInterrupted s).pru = s.pru ∧ (markInterrupted s).lki = s.lki
    ∧ (markInterrupted s).pins = s.pins ∧ (markInterrupted s).pending = s.pending := by
  simp [markInterrupted]

/-- `enterGate` touches only lsq, ssu, sve, cst, pru, lki. -/
@[simp] theorem enterGate_frame (i : Nat) (c : Consent) (s : State) :
    (enterGate i c s).tmb = s.tmb ∧ (enterGate i c s).asa = s.asa ∧ (enterGate i c s).cau = s.cau
    ∧ (enterGate i c s).ckm = s.ckm ∧ (enterGate i c s).pins = s.pins ∧ (enterGate i c s).pending = s.pending := by
  simp [enterGate]

/-- `gateStep` touches only lsq, lki. -/
@[simp] theorem gateStep_frame (i : Nat) (c : Consent) (s : State) :
    (gateStep i c s).tmb = s.tmb ∧ (gateStep i c s).asa = s.asa ∧ (gateStep i c s).cau = s.cau
    ∧ (gateStep i c s).ssu = s.ssu ∧ (gateStep i c s).sve = s.sve ∧ (gateStep i c s).cst = s.cst
    ∧ (gateStep i c s).ckm = s.ckm ∧ (gateStep i c s).pru = s.pru ∧ (gateStep i c s).pins = s.pins
    ∧ (gateStep i c s).pending = s.pending := by
  unfold gateStep
  split <;> simp

/-- `setRep` touches only lsq. -/
@[simp] theorem setRep_frame (i r : Nat) (s : State) :
    (setRep i r s).tmb = s.tmb ∧ (setRep i r s).asa = s.asa ∧ (setRep i r s).cau = s.cau
    ∧ (setRep i r s).ssu = s.ssu ∧ (setRep i r s).sve = s.sve ∧ (setRep i r s).cst = s.cst
    ∧ (setRep i r s).ckm = s.ckm ∧ (setRep i r s).pru = s.pru ∧ (setRep i r s).lki = s.lki
    ∧ (setRep i r s).pins = s.pins ∧ (setRep i r s).pending = s.pending := by
  simp [setRep]

/-- `jumpStep` touches only lsq, lki. -/
@[simp] theorem jumpStep_frame (t n : Nat) (s : State) :
    (jumpStep t n s).tmb = s.tmb ∧ (jumpStep t n s).asa = s.asa ∧ (jumpStep t n s).cau = s.cau
    ∧ (jumpStep t n s).ssu = s.ssu ∧ (jumpStep t n s).sve = s.sve ∧ (jumpStep t n s).cst = s.cst
    ∧ (jumpStep t n s).ckm = s.ckm ∧ (jumpStep t n s).pru = s.pru ∧ (jumpStep t n s).pins = s.pins
    ∧ (jumpStep t n s).pending = s.pending := by
  unfold jumpStep
  dsimp only
  (repeat' split) <;> simp

/-- `workSegment` touches only lsq, lki. -/
@[simp] theorem workSegment_frame (r : Running) (s : State) :
    ((workSegment r s).1).tmb = s.tmb ∧ ((workSegment r s).1).asa = s.asa ∧ ((workSegment r s).1).cau = s.cau
    ∧ ((workSegment r s).1).ssu = s.ssu ∧ ((workSegment r s).1).sve = s.sve ∧ ((workSegment r s).1).cst = s.cst
    ∧ ((workSegment r s).1).ckm = s.ckm ∧ ((workSegment r s).1).pru = s.pru ∧ ((workSegment r s).1).pins = s.pins
    ∧ ((workSegment r s).1).pending = s.pending := by
  unfold workSegment
  split <;> simp

/-- `enterSegment` touches only lsq, ssu, sve, cst, pru, lki. -/
@[simp] theorem enterSegment_frame (s : State) :
    ((enterSegment s).1).tmb = s.tmb ∧ ((enterSegment s).1).asa = s.asa ∧ ((enterSegment s).1).cau = s.cau
    ∧ ((enterSegment s).1).ckm = s.ckm ∧ ((enterSegment s).1).pins = s.pins
    ∧ ((enterSegment s).1).pending = s.pending := by
  unfold enterSegment
  split
  · simp
  · dsimp only
    (repeat' split) <;> simp

/-- `alignStep` touches only lsq, asa, lki. -/
@[simp] theorem alignStep_frame (s : State) :
    (alignStep s).tmb = s.tmb ∧ (alignStep s).cau = s.cau ∧ (alignStep s).ssu = s.ssu ∧ (alignStep s).sve = s.sve
    ∧ (alignStep s).cst = s.cst ∧ (alignStep s).ckm = s.ckm ∧ (alignStep s).pru = s.pru
    ∧ (alignStep s).pins = s.pins ∧ (alignStep s).pending = s.pending := by
  unfold alignStep
  dsimp only
  split <;> simp

/-- `sequencerPeriod` touches only lsq, asa, ssu, sve, cst, pru, lki. -/
@[simp] theorem sequencerPeriod_frame (s : State) :
    ((sequencerPeriod s).1).tmb = s.tmb ∧ ((sequencerPeriod s).1).cau = s.cau ∧ ((sequencerPeriod s).1).ckm = s.ckm
    ∧ ((sequencerPeriod s).1).pins = s.pins ∧ ((sequencerPeriod s).1).pending = s.pending := by
  unfold sequencerPeriod
  (repeat' split) <;> simp

/-- `beginCapture` touches only cau. -/
@[simp] theorem beginCapture_frame (s : State) :
    (beginCapture s).tmb = s.tmb ∧ (beginCapture s).lsq = s.lsq ∧ (beginCapture s).asa = s.asa
    ∧ (beginCapture s).ssu = s.ssu ∧ (beginCapture s).sve = s.sve ∧ (beginCapture s).cst = s.cst
    ∧ (beginCapture s).ckm = s.ckm ∧ (beginCapture s).pru = s.pru ∧ (beginCapture s).lki = s.lki
    ∧ (beginCapture s).pins = s.pins ∧ (beginCapture s).pending = s.pending := by
  simp [beginCapture]

/-- `openWindow` touches only cau. -/
@[simp] theorem openWindow_frame (v k : Int) (s : State) :
    (openWindow v k s).tmb = s.tmb ∧ (openWindow v k s).lsq = s.lsq ∧ (openWindow v k s).asa = s.asa
    ∧ (openWindow v k s).ssu = s.ssu ∧ (openWindow v k s).sve = s.sve ∧ (openWindow v k s).cst = s.cst
    ∧ (openWindow v k s).ckm = s.ckm ∧ (openWindow v k s).pru = s.pru ∧ (openWindow v k s).lki = s.lki
    ∧ (openWindow v k s).pins = s.pins ∧ (openWindow v k s).pending = s.pending := by
  simp [openWindow]

/-- `followWindow` touches only cau. -/
@[simp] theorem followWindow_frame (s : State) :
    (followWindow s).tmb = s.tmb ∧ (followWindow s).lsq = s.lsq ∧ (followWindow s).asa = s.asa
    ∧ (followWindow s).ssu = s.ssu ∧ (followWindow s).sve = s.sve ∧ (followWindow s).cst = s.cst
    ∧ (followWindow s).ckm = s.ckm ∧ (followWindow s).pru = s.pru ∧ (followWindow s).lki = s.lki
    ∧ (followWindow s).pins = s.pins ∧ (followWindow s).pending = s.pending := by
  simp [followWindow]

/-- `offerCycle` touches only cau, cst, lki. -/
@[simp] theorem offerCycle_frame (b : CycleBody) (s : State) :
    (offerCycle b s).tmb = s.tmb ∧ (offerCycle b s).lsq = s.lsq ∧ (offerCycle b s).asa = s.asa
    ∧ (offerCycle b s).ssu = s.ssu ∧ (offerCycle b s).sve = s.sve ∧ (offerCycle b s).ckm = s.ckm
    ∧ (offerCycle b s).pru = s.pru ∧ (offerCycle b s).pins = s.pins ∧ (offerCycle b s).pending = s.pending := by
  have h := offerRecord_frame (.cycle b) s
  unfold offerCycle
  split
  · rename_i s' n e
    simp only [e] at h
    simp [h]
  · rename_i s' e
    simp only [e] at h
    simp [h]

/-- `reportSubjects` touches only lsq, asa, cau, ssu, sve, cst, pru, lki. -/
@[simp] theorem reportSubjects_frame (k : CauseKind) (l : List Nat) (s : State) :
    (reportSubjects k l s).tmb = s.tmb ∧ (reportSubjects k l s).ckm = s.ckm ∧ (reportSubjects k l s).pins = s.pins
    ∧ (reportSubjects k l s).pending = s.pending := by
  unfold reportSubjects
  split <;> simp

/-- `completeCycle` touches only lsq, asa, cau, ssu, sve, cst, pru, lki. -/
@[simp] theorem completeCycle_frame (e : CycleEnd) (w : Window) (s : State) :
    (completeCycle e w s).tmb = s.tmb ∧ (completeCycle e w s).ckm = s.ckm ∧ (completeCycle e w s).pins = s.pins
    ∧ (completeCycle e w s).pending = s.pending := by
  unfold completeCycle
  dsimp only
  (repeat' split) <;> simp

/-- `cyclePeriod` touches only lsq, asa, cau, ssu, sve, cst, pru, lki. -/
@[simp] theorem cyclePeriod_frame (n : CycleNews) (s : State) :
    (cyclePeriod n s).tmb = s.tmb ∧ (cyclePeriod n s).ckm = s.ckm ∧ (cyclePeriod n s).pins = s.pins
    ∧ (cyclePeriod n s).pending = s.pending := by
  unfold cyclePeriod
  dsimp only
  (repeat' split) <;> simp

/-- `convertScan` touches only ssu. -/
@[simp] theorem convertScan_frame (m : Fin 16) (l : List RatioIn) (s : State) :
    (convertScan m l s).tmb = s.tmb ∧ (convertScan m l s).lsq = s.lsq ∧ (convertScan m l s).asa = s.asa
    ∧ (convertScan m l s).cau = s.cau ∧ (convertScan m l s).sve = s.sve ∧ (convertScan m l s).cst = s.cst
    ∧ (convertScan m l s).ckm = s.ckm ∧ (convertScan m l s).pru = s.pru ∧ (convertScan m l s).lki = s.lki
    ∧ (convertScan m l s).pins = s.pins ∧ (convertScan m l s).pending = s.pending := by
  simp [convertScan]

/-- `moduleArrival` touches only ssu, pru. -/
@[simp] theorem moduleArrival_frame (m : Fin 16) (s : State) :
    (moduleArrival m s).tmb = s.tmb ∧ (moduleArrival m s).lsq = s.lsq ∧ (moduleArrival m s).asa = s.asa
    ∧ (moduleArrival m s).cau = s.cau ∧ (moduleArrival m s).sve = s.sve ∧ (moduleArrival m s).cst = s.cst
    ∧ (moduleArrival m s).ckm = s.ckm ∧ (moduleArrival m s).lki = s.lki ∧ (moduleArrival m s).pins = s.pins
    ∧ (moduleArrival m s).pending = s.pending := by
  unfold moduleArrival
  dsimp only
  split <;> simp

theorem checkAll_frame (p : PState) (pm : Int) (gs : List (Fin 256)) (s : State) :
    gs.foldl (fun s g => s.updGauge g (Gauge.check p pm)) s
      = s.updSsu fun _ => (gs.foldl (fun s g => s.updGauge g (Gauge.check p pm)) s).ssu := by
  induction gs generalizing s with
  | nil => rfl
  | cons g gs ih =>
    simp only [List.foldl_cons]
    rw [ih]
    rfl

/-- `checkScan` touches only ssu. -/
@[simp] theorem checkScan_frame (gs : List (Fin 256)) (s : State) :
    ((checkScan gs s).1).tmb = s.tmb ∧ ((checkScan gs s).1).lsq = s.lsq ∧ ((checkScan gs s).1).asa = s.asa
    ∧ ((checkScan gs s).1).cau = s.cau ∧ ((checkScan gs s).1).sve = s.sve ∧ ((checkScan gs s).1).cst = s.cst
    ∧ ((checkScan gs s).1).ckm = s.ckm ∧ ((checkScan gs s).1).pru = s.pru ∧ ((checkScan gs s).1).lki = s.lki
    ∧ ((checkScan gs s).1).pins = s.pins ∧ ((checkScan gs s).1).pending = s.pending := by
  simp only [checkScan]
  rw [checkAll_frame]
  simp

/-- `convertedScan` touches only ssu, pru. -/
@[simp] theorem convertedScan_frame (m : Fin 16) (l : List RatioIn) (s : State) :
    ((convertedScan m l s).1).tmb = s.tmb ∧ ((convertedScan m l s).1).lsq = s.lsq
    ∧ ((convertedScan m l s).1).asa = s.asa ∧ ((convertedScan m l s).1).cau = s.cau
    ∧ ((convertedScan m l s).1).sve = s.sve ∧ ((convertedScan m l s).1).cst = s.cst
    ∧ ((convertedScan m l s).1).ckm = s.ckm ∧ ((convertedScan m l s).1).lki = s.lki
    ∧ ((convertedScan m l s).1).pins = s.pins ∧ ((convertedScan m l s).1).pending = s.pending := by
  simp [convertedScan]

/-- `reportDeviation` touches only lsq, asa, cau, ssu, sve, cst, pru, lki. -/
@[simp] theorem reportDeviation_frame (s : State) (r : Report) :
    (reportDeviation s r).tmb = s.tmb ∧ (reportDeviation s r).ckm = s.ckm ∧ (reportDeviation s r).pins = s.pins
    ∧ (reportDeviation s r).pending = s.pending := by
  unfold reportDeviation
  dsimp only
  split <;> simp

@[simp] theorem reportDeviations_frame (l : List Report) (s : State) :
    let t := l.foldl reportDeviation s
    t.tmb = s.tmb ∧ t.ckm = s.ckm ∧ t.pins = s.pins ∧ t.pending = s.pending := by
  induction l generalizing s with
  | nil => simp
  | cons r l ih => simpa using ih (reportDeviation s r)

/-- `takeScan` touches only lsq, asa, cau, ssu, sve, cst, pru, lki. -/
@[simp] theorem takeScan_frame (m : Nat) (l : List RatioIn) (s : State) :
    (takeScan m l s).tmb = s.tmb ∧ (takeScan m l s).ckm = s.ckm ∧ (takeScan m l s).pins = s.pins
    ∧ (takeScan m l s).pending = s.pending := by
  unfold takeScan
  split
  · simp
  · dsimp only
    have h := reportDeviations_frame
    simp only at h
    simp [h]

/-- `silenceModule` touches only lsq, asa, cau, ssu, sve, cst, pru, lki. -/
@[simp] theorem silenceModule_frame (m : Fin 16) (s : State) :
    (silenceModule m s).tmb = s.tmb ∧ (silenceModule m s).ckm = s.ckm ∧ (silenceModule m s).pins = s.pins
    ∧ (silenceModule m s).pending = s.pending := by
  simp [silenceModule]

/-- `leaveInput` touches only ssu, pru. -/
@[simp] theorem leaveInput_frame (i : Option (Fin 16 × Fin 16)) (s : State) :
    (leaveInput i s).tmb = s.tmb ∧ (leaveInput i s).lsq = s.lsq ∧ (leaveInput i s).asa = s.asa
    ∧ (leaveInput i s).cau = s.cau ∧ (leaveInput i s).sve = s.sve ∧ (leaveInput i s).cst = s.cst
    ∧ (leaveInput i s).ckm = s.ckm ∧ (leaveInput i s).lki = s.lki ∧ (leaveInput i s).pins = s.pins
    ∧ (leaveInput i s).pending = s.pending := by
  unfold leaveInput
  split <;> simp

/-- `remap` touches only ssu, pru. -/
@[simp] theorem remap_frame (c : GaugeSet) (o : Gauge) (s : State) :
    (remap c o s).tmb = s.tmb ∧ (remap c o s).lsq = s.lsq ∧ (remap c o s).asa = s.asa ∧ (remap c o s).cau = s.cau
    ∧ (remap c o s).sve = s.sve ∧ (remap c o s).cst = s.cst ∧ (remap c o s).ckm = s.ckm ∧ (remap c o s).lki = s.lki
    ∧ (remap c o s).pins = s.pins ∧ (remap c o s).pending = s.pending := by
  unfold remap
  dsimp only
  (repeat' split) <;> simp

/-- `frontendArrival` touches only ckm, pru. -/
@[simp] theorem frontendArrival_frame (s : State) :
    (frontendArrival s).tmb = s.tmb ∧ (frontendArrival s).lsq = s.lsq ∧ (frontendArrival s).asa = s.asa
    ∧ (frontendArrival s).cau = s.cau ∧ (frontendArrival s).ssu = s.ssu ∧ (frontendArrival s).sve = s.sve
    ∧ (frontendArrival s).cst = s.cst ∧ (frontendArrival s).lki = s.lki ∧ (frontendArrival s).pins = s.pins
    ∧ (frontendArrival s).pending = s.pending := by
  unfold frontendArrival
  dsimp only
  split <;> simp

/-- `takeSample` touches only lsq, asa, cau, ssu, sve, cst, pru, lki, ckm. -/
@[simp] theorem takeSample_frame (l : List Bool) (s : State) :
    (takeSample l s).tmb = s.tmb ∧ (takeSample l s).pins = s.pins ∧ (takeSample l s).pending = s.pending := by
  simp [takeSample]

/-- `silenceFrontend` touches only lsq, asa, cau, ssu, sve, cst, pru, lki, ckm. -/
@[simp] theorem silenceFrontend_frame (s : State) :
    (silenceFrontend s).tmb = s.tmb ∧ (silenceFrontend s).pins = s.pins ∧ (silenceFrontend s).pending = s.pending := by
  simp [silenceFrontend]

/-- `turnCautionOn` touches only ckm, lki. -/
@[simp] theorem turnCautionOn_frame (i : Fin 8) (s : State) :
    (turnCautionOn i s).tmb = s.tmb ∧ (turnCautionOn i s).lsq = s.lsq ∧ (turnCautionOn i s).asa = s.asa
    ∧ (turnCautionOn i s).cau = s.cau ∧ (turnCautionOn i s).ssu = s.ssu ∧ (turnCautionOn i s).sve = s.sve
    ∧ (turnCautionOn i s).cst = s.cst ∧ (turnCautionOn i s).pru = s.pru ∧ (turnCautionOn i s).pins = s.pins
    ∧ (turnCautionOn i s).pending = s.pending := by
  simp [turnCautionOn]

/-- `judgeChannel` touches only lsq, asa, cau, ssu, sve, cst, pru, lki, ckm. -/
@[simp] theorem judgeChannel_frame (i : Fin 8) (s : State) :
    (judgeChannel i s).tmb = s.tmb ∧ (judgeChannel i s).pins = s.pins ∧ (judgeChannel i s).pending = s.pending := by
  unfold judgeChannel
  dsimp only
  split <;> simp

/-- `endChannelSilence` touches only ckm, pru. -/
@[simp] theorem endChannelSilence_frame (i : Fin 8) (s : State) :
    (endChannelSilence i s).tmb = s.tmb ∧ (endChannelSilence i s).lsq = s.lsq ∧ (endChannelSilence i s).asa = s.asa
    ∧ (endChannelSilence i s).cau = s.cau ∧ (endChannelSilence i s).ssu = s.ssu
    ∧ (endChannelSilence i s).sve = s.sve ∧ (endChannelSilence i s).cst = s.cst
    ∧ (endChannelSilence i s).lki = s.lki ∧ (endChannelSilence i s).pins = s.pins
    ∧ (endChannelSilence i s).pending = s.pending := by
  unfold endChannelSilence
  split <;> simp

/-- `takeWindow` touches only lsq, asa, cau, ssu, sve, cst, pru, lki, ckm. -/
@[simp] theorem takeWindow_frame (c h : Nat) (s : State) :
    (takeWindow c h s).tmb = s.tmb ∧ (takeWindow c h s).pins = s.pins ∧ (takeWindow c h s).pending = s.pending := by
  unfold takeWindow
  split
  · simp
  · dsimp only
    split <;> simp

/-- `silenceChannel` touches only lsq, asa, cau, ssu, sve, cst, pru, lki, ckm. -/
@[simp] theorem silenceChannel_frame (i : Fin 8) (s : State) :
    (silenceChannel i s).tmb = s.tmb ∧ (silenceChannel i s).pins = s.pins ∧ (silenceChannel i s).pending = s.pending := by
  simp [silenceChannel]

/-- `tellBreakLevel` touches only lsq, asa, cau, ssu, sve, cst, pru, lki. -/
@[simp] theorem tellBreakLevel_frame (i : Fin 32) (b : Bool) (s : State) :
    (tellBreakLevel i b s).tmb = s.tmb ∧ (tellBreakLevel i b s).ckm = s.ckm ∧ (tellBreakLevel i b s).pins = s.pins
    ∧ (tellBreakLevel i b s).pending = s.pending := by
  unfold tellBreakLevel
  dsimp only
  split <;> simp

/-- `leaveFrontend` touches only ckm, pru. -/
@[simp] theorem leaveFrontend_frame (s : State) :
    (leaveFrontend s).tmb = s.tmb ∧ (leaveFrontend s).lsq = s.lsq ∧ (leaveFrontend s).asa = s.asa
    ∧ (leaveFrontend s).cau = s.cau ∧ (leaveFrontend s).ssu = s.ssu ∧ (leaveFrontend s).sve = s.sve
    ∧ (leaveFrontend s).cst = s.cst ∧ (leaveFrontend s).lki = s.lki ∧ (leaveFrontend s).pins = s.pins
    ∧ (leaveFrontend s).pending = s.pending := by
  unfold leaveFrontend
  split <;> simp

/-- `clockStage` touches only tmb. -/
@[simp] theorem clockStage_frame (s : State) :
    (clockStage s).lsq = s.lsq ∧ (clockStage s).asa = s.asa ∧ (clockStage s).cau = s.cau
    ∧ (clockStage s).ssu = s.ssu ∧ (clockStage s).sve = s.sve ∧ (clockStage s).cst = s.cst
    ∧ (clockStage s).ckm = s.ckm ∧ (clockStage s).pru = s.pru ∧ (clockStage s).lki = s.lki
    ∧ (clockStage s).pins = s.pins ∧ (clockStage s).pending = s.pending := by
  simp [clockStage]

/-- `timeOutSlot` touches only sve, lki. -/
@[simp] theorem timeOutSlot_frame (l : Link) (i : Fin 2) (s : State) :
    (timeOutSlot l i s).tmb = s.tmb ∧ (timeOutSlot l i s).lsq = s.lsq ∧ (timeOutSlot l i s).asa = s.asa
    ∧ (timeOutSlot l i s).cau = s.cau ∧ (timeOutSlot l i s).ssu = s.ssu ∧ (timeOutSlot l i s).cst = s.cst
    ∧ (timeOutSlot l i s).ckm = s.ckm ∧ (timeOutSlot l i s).pru = s.pru ∧ (timeOutSlot l i s).pins = s.pins
    ∧ (timeOutSlot l i s).pending = s.pending := by
  unfold timeOutSlot
  split <;> simp

/-- `deadlineStage` touches only sve, lki. -/
@[simp] theorem deadlineStage_frame (s : State) :
    (deadlineStage s).tmb = s.tmb ∧ (deadlineStage s).lsq = s.lsq ∧ (deadlineStage s).asa = s.asa
    ∧ (deadlineStage s).cau = s.cau ∧ (deadlineStage s).ssu = s.ssu ∧ (deadlineStage s).cst = s.cst
    ∧ (deadlineStage s).ckm = s.ckm ∧ (deadlineStage s).pru = s.pru ∧ (deadlineStage s).pins = s.pins
    ∧ (deadlineStage s).pending = s.pending := by
  simp [deadlineStage]

theorem silenceModules_frame (l : List (Fin 16)) (s : State) :
    let t := l.foldl (fun s m => if moduleDue s m then silenceModule m s else s) s
    t.tmb = s.tmb ∧ t.ckm = s.ckm ∧ t.pins = s.pins ∧ t.pending = s.pending := by
  induction l generalizing s with
  | nil => simp
  | cons m l ih =>
    simp only [List.foldl_cons]
    split
    · simpa using ih (silenceModule m s)
    · exact ih s

theorem silenceChannels_frame (l : List (Fin 8)) (s : State) :
    let t := l.foldl (fun s c => if channelDue s c then silenceChannel c s else s) s
    t.tmb = s.tmb ∧ t.pins = s.pins ∧ t.pending = s.pending := by
  induction l generalizing s with
  | nil => simp
  | cons m l ih =>
    simp only [List.foldl_cons]
    split
    · simpa using ih (silenceChannel m s)
    · exact ih s

/-- `silenceStage` touches only lsq, asa, cau, ssu, sve, cst, pru, lki, ckm. -/
@[simp] theorem silenceStage_frame (s : State) :
    (silenceStage s).tmb = s.tmb ∧ (silenceStage s).pins = s.pins ∧ (silenceStage s).pending = s.pending := by
  have h1 := silenceModules_frame (allFin 16) s
  have h2 := silenceChannels_frame (allFin 8)
  unfold silenceStage
  dsimp only at h1 h2 ⊢
  split <;> simp [h1, h2]

/-- `advanceStage` touches only lsq, asa, cau, ssu, sve, cst, pru, lki, ckm. -/
@[simp] theorem advanceStage_frame (s : State) :
    (advanceStage s).tmb = s.tmb ∧ (advanceStage s).pins = s.pins ∧ (advanceStage s).pending = s.pending := by
  simp [advanceStage]

/-- `timeStage` touches only lsq, asa, cau, ssu, sve, cst, pru, lki, ckm, tmb. -/
@[simp] theorem timeStage_frame (s : State) :
    (timeStage s).pins = s.pins ∧ (timeStage s).pending = s.pending := by
  unfold timeStage
  split <;> simp

@[simp] theorem timeStage_tmb (s : State) : (timeStage s).tmb = (clockStage s).tmb := by
  unfold timeStage
  split <;> simp

/-- `settledStage` touches only lsq, asa, cau, ssu, sve, cst, pru, lki, ckm, tmb. -/
@[simp] theorem settledStage_frame (s : State) :
    (settledStage s).pins = s.pins ∧ (settledStage s).pending = s.pending := by
  simp [settledStage]

@[simp] theorem settledStage_tmb (s : State) : (settledStage s).tmb = (clockStage s).tmb := by
  simp [settledStage]

/-- `arrayStage` touches only lsq, asa, pru, lki. -/
@[simp] theorem arrayStage_frame (s : State) :
    (arrayStage s).tmb = s.tmb ∧ (arrayStage s).cau = s.cau ∧ (arrayStage s).ssu = s.ssu
    ∧ (arrayStage s).sve = s.sve ∧ (arrayStage s).cst = s.cst ∧ (arrayStage s).ckm = s.ckm
    ∧ (arrayStage s).pins = s.pins ∧ (arrayStage s).pending = s.pending := by
  unfold arrayStage
  dsimp only
  split <;> simp

/-- `loadingPath` touches only lsq, asa, cau, ssu, sve, cst, pru, lki. -/
@[simp] theorem loadingPath_frame (s : State) :
    (loadingPath s).tmb = s.tmb ∧ (loadingPath s).ckm = s.ckm ∧ (loadingPath s).pins = s.pins
    ∧ (loadingPath s).pending = s.pending := by
  simp [loadingPath]

/-- `servoPeriod` touches only lsq, asa, cau, ssu, sve, cst, pru, lki, ckm, tmb. -/
@[simp] theorem servoPeriod_frame (s : State) :
    (servoPeriod s).pins = s.pins ∧ (servoPeriod s).pending = s.pending := by
  simp [servoPeriod]

@[simp] theorem servoPeriod_tmb (s : State) : (servoPeriod s).tmb = (clockStage s).tmb := by
  simp [servoPeriod]

/-- `removeRecords` touches only lsq, ssu, sve, cst, pru, lki. -/
@[simp] theorem removeRecords_frame (l : List Record) (s : State) :
    (removeRecords l s).tmb = s.tmb ∧ (removeRecords l s).asa = s.asa ∧ (removeRecords l s).cau = s.cau
    ∧ (removeRecords l s).ckm = s.ckm ∧ (removeRecords l s).pins = s.pins ∧ (removeRecords l s).pending = s.pending := by
  simp [removeRecords]

end Sys2Proof.Machine
end

