-- ==== Sys2Proof/Tests/Slice0.lean ====
section
/-! SUPPORT. Tests: well-formedness, the manual's worked figures, and for each statement with hypotheses a concrete state
and operands that meet them all. -/

namespace Sys2Proof.Tests

set_option Elab.async false

open Sys2Proof.Machine Sys2Proof.Safety

/-! ### Helpers -/

/-- The command answers a next state that satisfies the test. -/
def gives (c : Instr) (s : State) (p : State → Bool) : Bool :=
  match exec c s with
  | .next t => p t
  | _ => false

/-- The payload of the frame the Director transmitter begins. -/
def sent (t : State) : List Byte := t.lki.director.tx.elim [] (·.payload)

def onCfg : ActCfg := { actuatorReset.cfg with enabled := true, share := 1000, kp := 4096, ki := 64 }

/-- PRU armed, actuator 0 ENABLED and at rest. -/
def armed : State :=
  ((State.reset.updAct 0 fun a => { a with cfg := onCfg, setpoint := some 0 }).updAsa fun a =>
    { a with isolation := true }).updPru fun p => { p with state := .armed }

/-- A program of one segment twice, the first running in the given state. -/
def running (st : SeqState) (r : Running) (s : State) : State :=
  s.updLsq fun q =>
    { q with prog := [{ seg := r.seg, rep := none }, { seg := r.seg, rep := none }], state := st, running := some r }

def withState (st : SeqState) (s : State) : State := s.updLsq fun q => { q with state := st }
def withPru (p : PState) (s : State) : State := s.updPru fun u => { u with state := p }
def withRx (rx : Assembler) (s : State) : State := s.updLink .director fun k => { k with rx := rx }
def at_ (q hall : Nat) (s : State) : State := s.updTmb fun t => { t with q := q, hall := hall }

/-- Gauge 0 on module 0, input 0. -/
def mapped (s : State) : State := s.updGauge 0 fun g => { g with mapping := some (0, 0) }

/-- Group 0 is gauge 0. -/
def grouped (s : State) : State := (mapped s).updSsu fun u => { u with groups := u.groups.set 0 [0] }

def ratios (r : Int) : List RatioIn := List.replicate 16 { ratio := r, overRange := false }

def collGauge (n : Nat) : CollGauge :=
  { gauge := 0, arrivals := n, valid := n, sum := 100 * n, hi := none, lo := none, spoiled := false }

/-- A STATIC collection of gauge 0 over two scans, one of them taken. -/
def collection : Collection :=
  { kind := .static, group := 0, scans := 2, gauges := [collGauge 1], start := 0, periods := 0, pmSum := 0,
    pmHi := none, pmLo := none, refused := false }

def entry0 : PlanEntry :=
  { kind := .static, group := 0, scans := 2, trigger := .onHold, settle := 1, interval := 1, next := 1,
    holdMark := true, setEnd := false, notify := false, complete := false, result := none, setNo := none,
    setLast := none }

def withSve (f : Sve → Sve) (s : State) : State := s.updSve f

def planArg : PlanArg :=
  { index := 63, kind := 4, group := 31, trigger := 3, scans := 256, settle := 65535, interval := 1000000,
    next := 63, marks := 7 }

def actArg : ActuatorArg :=
  { index := 7, use := 1, frame := 3, polarity := 1, share := 2000, fmin := -1000000, fmax := 1000000, trip := 1,
    dmin := -500000, dmax := 500000, kp := 65535, ki := 65535, rest := 0, unloadRate := 200000, peakTol := 100000 }

def gaugeArg : GaugeArg :=
  { gauge := 0, module := 15, input := 15, bridge := 4, gfm := 4000, watch := 1, band := 1, confirm := 255 }

def cycleArg : CycleArg :=
  { tracking := 255, stroke := 100000, capture := 255, drop := 999, dropRun := 255, decimation := 65535,
    exceptions := 1 }

def aReply : FrameOut := { kind := 0x85#8, tag := 0#8, payload := [0#8] }
def aNotice : Notice := { body := .caution false 0 none 0 0 [], stamp := 0, merge := 1 }
def anAlarm : AlarmBody :=
  { after := .holding, before := .armed, demand := .hold, line := false, lost := false, firstSnap := none,
    lastSnap := some 7, causes := [(.deviation, [3])] }
def waiting (d : Nat) : Slot := .waiting 0x41#8 7#8 false d

def cycleRecord (n : Nat) : Record :=
  { number := n, stamp := 0,
    body := .cycle { decimation := true, exception := false, total := 1, counted := true, index := 0, cyclesDone := 1,
                     judgement := .notJudged, interrupted := false, acts := [] } }

def withRecords (l : List Record) (s : State) : State :=
  s.updCst fun c => { c with records := l, nextNo := l.length + 1 }

def stalledBody_ : SurveyBody :=
  { source := .demand .director 7#8, kind := .static, group := 0, scans := 2, start := 0, stop := 0, periods := 0,
    pmAvg := 0, result := .done, gauges := [] }

def aRequest (replied : Bool) : DemandReq :=
  { link := .director, tag := 7#8, group := 0, scans := 2, slot := 0, replied := replied }

/-! ### Well-formedness: an ill-formed term for each check is refused -/

theorem test_requests_at_the_ends_of_their_fields_are_wellFormed :
    ([.setActuator actArg, .setCycleAccounting cycleArg, .mapGauge gaugeArg, .writePlanEntry planArg,
      .subscribe 255, .setReplyTimeout 65535, .appendSegment (.ramp (-2147483648) 4294967295),
      .appendSegment (.unknown 5), .setGroup 255 (List.replicate 255 255), .setZero 255 2147483647,
      .setSurveySettings (-2147483648) 2147483647, .setAeChannel 255 255 255 4294967295 4294967295] : List Request).all
        Request.wellFormed = true := by decide +kernel

theorem test_wellFormed_refuses_link_time_and_program_fields :
    ([.subscribe 256, .setReplyTimeout 65536, .readSegment 256, .restart 256, .openGate 256, .writeSegment 256 (.gate 1 0),
      .writeSegment 0 (.gate 256 0), .appendSegment (.ramp 2147483648 1), .appendSegment (.ramp (-2147483649) 1),
      .appendSegment (.ramp 0 4294967296), .appendSegment (.hold 4294967296 0), .appendSegment (.hold 1 256),
      .appendSegment (.cycle 2147483648 0 16 1 0), .appendSegment (.cycle 0 2147483648 16 1 0),
      .appendSegment (.cycle 0 0 65536 1 0), .appendSegment (.cycle 0 0 16 4294967296 0),
      .appendSegment (.cycle 0 0 16 1 256), .appendSegment (.gate 1 256), .appendSegment (.jump 256 0),
      .appendSegment (.jump 0 65536), .appendSegment (.unknown 4), .appendSegment (.unknown 256)] : List Request).any
        Request.wellFormed = false := by decide +kernel

theorem test_wellFormed_refuses_actuator_fields :
    ([{ actArg with index := 256 }, { actArg with use := 256 }, { actArg with frame := 256 },
      { actArg with polarity := 256 }, { actArg with share := 65536 }, { actArg with fmin := 2147483648 },
      { actArg with fmax := 2147483648 }, { actArg with trip := 2147483648 }, { actArg with dmin := -2147483649 },
      { actArg with dmax := 2147483648 }, { actArg with kp := 65536 }, { actArg with ki := 65536 },
      { actArg with rest := 2147483648 }, { actArg with unloadRate := 4294967296 },
      { actArg with peakTol := 4294967296 }] : List ActuatorArg).any ActuatorArg.wellFormed = false
    ∧ ([.setFrame 256 0 1, .setFrame 0 4294967296 1, .setFrame 0 0 65536, .setAlignment 4294967296,
        .readActuator 256] : List Request).any Request.wellFormed = false := by decide +kernel

theorem test_wellFormed_refuses_cycle_and_gauge_fields :
    ([{ cycleArg with tracking := 256 }, { cycleArg with stroke := 4294967296 }, { cycleArg with capture := 256 },
      { cycleArg with drop := 65536 }, { cycleArg with dropRun := 256 }, { cycleArg with decimation := 4294967296 },
      { cycleArg with exceptions := 256 }] : List CycleArg).any CycleArg.wellFormed = false
    ∧ ([{ gaugeArg with gauge := 256 }, { gaugeArg with module := 256 }, { gaugeArg with input := 256 },
        { gaugeArg with bridge := 256 }, { gaugeArg with gfm := 65536 }, { gaugeArg with watch := 256 },
        { gaugeArg with band := 4294967296 }, { gaugeArg with confirm := 256 }] : List GaugeArg).any
          GaugeArg.wellFormed = false
    ∧ ([.setStiffnessReference 256 1, .setStiffnessReference 0 4294967296, .clearStiffnessReference 256, .unmapGauge 256,
        .setGroup 256 [], .setGroup 0 [256], .setGroup 0 (List.replicate 256 0), .setZero 256 0, .setZero 0 2147483648,
        .clearReference 256, .readGaugesByRange 256 1, .readGaugesByRange 0 256, .readGaugesByGroup 256 0 1,
        .readGaugesByGroup 0 256 1, .readGaugesByGroup 0 0 256] : List Request).any Request.wellFormed = false := by
  decide +kernel

theorem test_wellFormed_refuses_plan_store_crack_and_cause_fields :
    ([{ planArg with index := 256 }, { planArg with kind := 256 }, { planArg with group := 256 },
      { planArg with trigger := 256 }, { planArg with scans := 65536 }, { planArg with settle := 65536 },
      { planArg with interval := 4294967296 }, { planArg with next := 256 }, { planArg with marks := 256 }]
        : List PlanArg).any PlanArg.wellFormed = false
    ∧ ([.setPlanMode 256 0, .setPlanMode 0 256, .setSurveySettings 2147483648 0, .setSurveySettings 0 2147483648,
        .startPlan 256, .extendPlan 256, .releaseSet 256, .readPlanEntry 256, .surveyNow 256 1, .surveyNow 0 65536,
        .readStore 256, .releaseStore 4294967296, .setStoreMarks 65536 0, .setStoreMarks 0 65536,
        .setLoop 256 0 0 0, .setLoop 0 256 0 0, .setLoop 0 0 256 0, .setLoop 0 0 0 256, .setAeChannel 256 0 0 0 0,
        .setAeChannel 0 256 0 0 0, .setAeChannel 0 0 256 0 0, .setAeChannel 0 0 0 4294967296 0,
        .setAeChannel 0 0 0 0 4294967296, .readCrackStatusRing 256, .setCause 256 0 0, .setCause 0 256 0,
        .setCause 0 0 256] : List Request).any Request.wellFormed = false := by decide +kernel

theorem test_wellFormed_refuses_event_operands :
    ([.feedbackArrival [], .feedbackArrival (List.replicate 8 { force := 2147483648, disp := 0, valid := true }),
      .feedbackArrival (List.replicate 8 { force := 0, disp := -2147483649, valid := true }),
      .scanArrival 256 (ratios 0), .scanArrival 0 [], .scanArrival 0 (ratios 2147483648), .collectionEnd 256 (ratios 0),
      .collectionEnd 0 [], .loopSample [], .windowReport 256 0, .windowReport 0 65536,
      .stalledRecordEntry 0#8 4294967296, .restart .director 0#8 256] : List Instr).any Instr.wellFormed = false := by
  decide +kernel


/-! ### The manual's worked figures -/

/-- R177: the CRC is x¹⁶ + x¹² + x⁵ + 1 from 0xFFFF, high bit first (the check value usual for that polynomial). -/
theorem test_crc_of_the_digits :
    crc [0x31#8, 0x32#8, 0x33#8, 0x34#8, 0x35#8, 0x36#8, 0x37#8, 0x38#8, 0x39#8] = 0x29B1#16 := by decide +kernel

/-- R1. -/
theorem test_rounding_figures :
    roundDiv 78125 10 = 7813 ∧ roundDiv (-7) 2 = -4 ∧ roundDiv 7 2 = 4 ∧ roundDiv (-3) 2 = -2 := by decide +kernel

/-- Worked segment (11): the bytes of the CYCLE, and what they are stored as. -/
theorem test_worked_segment_bytes :
    writeSeg (.cycle 0 50000 256 100000 1)
      = [2#8, 0#8, 0#8, 0#8, 0#8, 0x50#8, 0xC3#8, 0#8, 0#8, 0#8, 1#8, 0xA0#8, 0x86#8, 1#8, 0#8, 1#8]
    ∧ checkSegment 1 (.cycle 0 50000 20000 100000 1) = some (.cycle 0 50000 8192 100000 true, true)
    ∧ checkSegment 1 (.cycle 60000 50000 256 100000 1) = none := by decide +kernel

/-- Worked half-cycles (01): 7,813, 2,148, 42,187 and 8,033. -/
theorem test_worked_half_cycles :
    halfLoad { start := 0, stop := 50000, len := 256, k := 64, rising := true } = 7813
    ∧ halfLoad { start := 0, stop := 50000, len := 512, k := 64, rising := true } = 2148
    ∧ halfLoad { start := 50000, stop := 0, len := 256, k := 64, rising := false } = 42187
    ∧ halfLoad { start := 0, stop := 50000, len := 256, k := 65, rising := true } = 8033 := by decide +kernel

/-- Worked setpoints (02): 3,907, 9,766, and 9,500 by the clamp. -/
theorem test_worked_setpoints :
    ({ actuatorReset with cfg := { onCfg with share := 500 } } : Actuator).programSetpoint 8000512 = 3907
    ∧ ({ actuatorReset with cfg := { onCfg with share := 1250 } } : Actuator).programSetpoint 8000512 = 9766
    ∧ ({ actuatorReset with cfg := { onCfg with share := 1250, fmax := 9500 } } : Actuator).programSetpoint 8000512
        = 9500 := by decide +kernel

/-- Worked seeding and alignment (02): Pm 2,394, offsets 13,312 and −12,800, then 1,209 and 2,981. -/
theorem test_worked_seeding :
    measuredLoad [{ actuatorReset with cfg := { onCfg with share := 500 }, force := 1210 },
                  { actuatorReset with cfg := { onCfg with share := 1250 }, force := 2980 }] = 2394
    ∧ seedOffset 2451456 1210 500 = 13312 ∧ seedOffset 2451456 2980 1250 = -12800
    ∧ ({ actuatorReset with cfg := { onCfg with share := 500 }, offset := 12312 } : Actuator).programSetpoint 2451456
        = 1209
    ∧ ({ actuatorReset with cfg := { onCfg with share := 1250 }, offset := -11800 } : Actuator).programSetpoint 2451456
        = 2981 := by decide +kernel

/-- Worked conversions (04): 23,280; −113; −114. -/
theorem test_worked_conversions :
    strainOf 4 2100 12345 1234567 = 23280 ∧ strainOf 1 2000 (-4100) (-26700) = -113
    ∧ strainOf 1 2000 (-4100) (-26750) = -113 ∧ strainOf 1 2000 (-4100) (-26800) = -114 := by decide +kernel

/-- Worked reference and deviation (04): slope 13,107; expected 11,000 and 12,000. -/
theorem test_worked_reference :
    slopeOf 5000 1000 105000 21000 = 13107 ∧ expectedStrain 5000 1000 13107 55000 = 11000
    ∧ expectedStrain 5000 1000 13107 60000 = 12000 := by decide +kernel

/-- Worked stiffness (03): 2,499, 6,081 and 12,507, and the capture of four that forms 2,500. -/
theorem test_worked_stiffness :
    ({ act := 0, peak := some ⟨24620, 9840⟩, valley := some ⟨5130, 2040⟩ } : QualAct).stiffness 100 = some 2499
    ∧ ({ act := 1, peak := some ⟨47490, 7810⟩, valley := some ⟨0, 0⟩ } : QualAct).stiffness 100 = some 6081
    ∧ ({ act := 0, peak := some ⟨50100, 12480⟩, valley := some ⟨4950, 8870⟩ } : QualAct).stiffness 100 = some 12507
    ∧ StiffRef.take 4 2502 (.capturing 3 7496) = .valid 2500
    ∧ belowDrop 100 2500 2249 = true ∧ belowDrop 100 2500 2250 = false := by decide +kernel

/-- R170: hundredths 1, 97 and 98 begin at phases 11, 994 and 1,004 (worked load-on clock, 09). -/
theorem test_first_periods :
    firstPeriod 0 = 0 ∧ firstPeriod 1 = 11 ∧ firstPeriod 97 = 994 ∧ firstPeriod 98 = 1004 := by decide +kernel

/-- Worked ramps (01): the first period sets P_fine to 2,000; the last, short step arrives; caution halves the step. -/
theorem test_worked_ramp :
    gives .servoPeriodExpiry (running .running (newRunning (.ramp 1001 2000)) armed)
        (fun t => decide (t.lsq.pFine = 2000 ∧ programLoad t = 2)) = true
    ∧ moveToward 1025024 2000 1024000 = 1025024 ∧ rampRate true 2000 = 1000 ∧ rampRate true 1 = 1 := by decide +kernel

/-- R178: a partial frame abandoned is counted. -/
theorem test_lineBreak_counts_gap :
    gives (.lineBreak .director) (withRx (.header []) State.reset)
      (fun t => decide ((t.link .director).gap = 1 ∧ (t.link .director).rx = .hunting)) = true := by decide +kernel

/-- R21: entering a GATE clears the consents and makes the state GATED. -/
theorem test_gate_entry :
    gives .servoPeriodExpiry
      ((armed.updLsq fun q => { q with prog := [{ seg := .gate 7 .both, rep := none }], state := .running,
                                       consentPanel := true }))
      (fun t => decide (t.lsq.state = .gated ∧ t.lsq.consentPanel = false)) = true := by decide +kernel

/-- R15: a JUMP with its counter at 1 goes back and leaves 0. -/
theorem test_jump_counts :
    gives .servoPeriodExpiry
      (armed.updLsq fun q =>
        { q with prog := [{ seg := .hold 1 false, rep := none }, { seg := .jump 0 3, rep := some 1 }],
                 state := .running, pos := ⟨1, 0⟩ })
      (fun t => decide (t.lsq.pos.index = 0 ∧ (t.lsq.prog.map (·.rep)) = [none, some 0])) = true := by decide +kernel

/-! ### Witnesses: a state and operands that meet the hypotheses of each statement -/

theorem witness_CommandsKeepTheQueueAndThePins :
    gives .hallTimeAdvance (at_ 10 0 armed) (fun _ => !armed.sve.endless) = true
    ∧ gives .estopAsserted armed (fun t => t.pins.estop) = true := by decide +kernel

theorem witness_ReadingRequestsOnlyReply :
    (Instr.readActuator .panel 7#8 7).request = some (.panel, 7#8, .readActuator 7)
    ∧ readsOnly (.readActuator 7) = true ∧ Accepts .panel State.reset
    ∧ readsExisting State.reset (.readActuator 7) = true ∧ readsExisting State.reset (.readActuator 8) = false := by
  decide +kernel

/-- A request that reads each of the structures the replies carry. -/
theorem witness_ReadingRequestsOnlyReply_each :
    let s := running .running (newRunning (.cycle 0 100 16 5 false)) (grouped (armed.setEntry 0 (some entry0)))
    ([.status, .readTime, .readSegment 1, .sequencerStatus, .readActuator 7, .readCycles, .readGaugesByRange 255 1,
      .readGaugesByGroup 0 0 1, .readPlanEntry 0, .readPlanEntry 63, .storeStatus, .readCrackStatusSummary,
      .readCrackStatusRing 7, .readAlarms] : List Request).all (fun r => readsOnly r && readsExisting s r) = true
    ∧ readsExisting s (.readSegment 2) = false ∧ Accepts .director s := by decide +kernel

theorem witness_LinkAndTimeRequestsSetAndReply : Accepts .director State.reset ∧ Accepts .panel State.reset := by
  decide +kernel

theorem witness_RequestsTurnedAwayChangeNothingElse :
    (Instr.arm .panel 7#8).request = some (.panel, 7#8, .arm) ∧ State.reset.sve.endless = false
    ∧ (State.reset.link .panel).queue ≤ 65535
    ∧ (State.reset.updLki fun k => { k with resetPending := true }).lki.resetPending = true
    ∧ 4 ≤ ((State.reset.updLink .panel fun k => { k with replies := List.replicate 4 aReply }).link .panel).replies.length
    ∧ Accepts .panel State.reset ∧ panelRequest .arm = false := by decide +kernel

theorem witness_ResetEventsResetThePart :
    let s := State.reset.updLink .director fun k => { k with tx := some { aReply with kind := 0x84#8 } }
    s.lki.director.tx = some { kind := 0x84#8, tag := 0#8, payload := [0#8] } := by decide +kernel

theorem witness_NoticesWaitAndFramesGoOut :
    let s := State.reset.updLink .director fun k => { k with tx := some aReply, replies := [aReply] }
    let u := State.reset.updLink .director fun k => { k with tx := some aReply, notices := [aNotice] }
    let v := State.reset.updLink .director fun k =>
      { k with tx := some aReply, replies := List.replicate 4 aReply, slots := k.slots.set 1 (.ready aReply),
               readyOrder := [1] }
    (s.link .director).tx = some aReply ∧ sendingResetOk s = false ∧ (s.link .director).readyOrder = []
    ∧ (u.link .director).replies = [] ∧ sendingResetOk u = false
    ∧ (v.link .director).readyOrder = [1] ∧ (v.link .director).slots.get 1 = .ready aReply ∧ sendingResetOk v = false
    ∧ gives (.frameSent .director) v (fun t => decide ((t.link .director).replies.length = 4)) = true := by
  decide +kernel

/-- The fourteenth ordinary notice finds a place and the fifteenth does not; the Panel does not subscribe CAUTION; an
ALARM finds one waiting, and a STATE; the Panel's HOLD pauses a running program. -/
theorem witness_NoticesWaitAndFramesGoOut_raised :
    let queued (ns : List Notice) : State := State.reset.updLink .director fun k => { k with notices := ns }
    let alarm : Notice := { body := .alarm anAlarm, stamp := 1, merge := 255 }
    let state : Notice := { body := .state .idle .safe 0, stamp := 1, merge := 1 }
    let director (b : NoticeBody) (s : State) : LinkSt := (raise b s).link .director
    let hold := running .running (newRunning (.hold 3 false)) armed
    (State.reset.link .panel).subs.getLsbD aNotice.body.cls.code = false
    ∧ (State.reset.link .director).subs.getLsbD aNotice.body.cls.code = true
    ∧ (director aNotice.body (queued (List.replicate 13 aNotice))).notices.length = 14
    ∧ (director aNotice.body (queued (List.replicate 14 aNotice))).lost = true
    ∧ (∀ x ∈ [aNotice], x.body.cls ≠ NoticeClass.alarm) ∧ (∀ x ∈ [aNotice], x.body.cls ≠ NoticeClass.state)
    ∧ (director (.alarm anAlarm) (queued [aNotice, alarm, state])).notices.length = 3
    ∧ (director (.state .done .armed 1) (queued [aNotice, alarm, state])).notices.map (·.merge) = [1, 255, 2]
    ∧ Accepts .panel hold ∧ hold.lsq.state = .running := by decide +kernel

theorem witness_FramesThatAreNoRequestAreCountedOrAnswered :
    let s := withRx (.header [1#8]) State.reset
    let u := withRx (.check 5#8 7#8 [] [0#8]) State.reset
    s.sve.endless = false ∧ (s.link .director).gap ≤ 65535 ∧ (s.link .director).length ≤ 65535
    ∧ (s.link .director).check ≤ 65535 ∧ (s.link .director).rx ≠ .hunting
    ∧ 1024 < (1#8 : Byte).toNat + 256 * (4#8 : Byte).toNat
    ∧ [0#8, 0#8] ≠ crcBytes (frameBody { kind := 5#8, tag := 7#8, payload := [] })
    ∧ (u.link .director).rx = .check 5#8 7#8 [] [0#8] ∧ Accepts .director s := by decide +kernel

/-- HOLD takes no payload; the last character of a frame that carries one byte is answered BAD_LENGTH, and ARM from the
Panel DENIED. -/
theorem witness_FramesThatAreNoRequestAreCountedOrAnswered_refused :
    let last (kind : Byte) (i : Nat) : Byte :=
      (crcBytes (frameBody { kind := kind, tag := 7#8, payload := [0#8] })).getD i 0#8
    let s (l : Link) (kind : Byte) : State :=
      State.reset.updLink l fun k => { k with rx := .check kind 7#8 [0#8] [last kind 0] }
    Accepts .panel (s .panel 0x16#8) ∧ panelRequest .hold = true ∧ kindByte .hold = 0x16#8
    ∧ [0#8].length ≠ payloadLength (kindByte .hold).toNat [0#8]
    ∧ [last 0x16#8 0, last 0x16#8 1]
        = crcBytes (frameBody { kind := kindByte .hold, tag := 7#8, payload := [0#8] })
    ∧ gives (.characterReceived .panel (last 0x16#8 1)) (s .panel 0x16#8)
        (fun t => decide (t.lki.panel.tx = some { kind := 0x96#8, tag := 7#8, payload := [3#8] })) = true
    ∧ gives (.characterReceived .panel (last 0x59#8 1)) (s .panel 0x59#8)
        (fun t => decide (t.lki.panel.tx = some { kind := 0xD9#8, tag := 7#8, payload := [5#8] })) = true := by
  decide +kernel

theorem witness_a_kind_that_no_request_has : ∀ r : Request, kindByte r ≠ 0x7F#8 := by
  intro r; cases r <;> simp [kindByte]

theorem witness_CharactersAreAssembled :
    State.reset.sve.endless = false ∧ (State.reset.link .panel).rx = .hunting
    ∧ ((withRx (.header [0#8]) State.reset).link .director).rx = .header [0#8]
    ∧ (0#8 : Byte).toNat + 256 * (4#8 : Byte).toNat ≤ 1024 := by decide +kernel

theorem witness_FrameOnTheWireIsItsCommand :
    (Instr.surveyNow .panel 7#8 31 256).request = some (.panel, 7#8, .surveyNow 31 256)
    ∧ (Request.surveyNow 31 256).wellFormed = true ∧ (State.reset.link .panel).rx = .hunting
    ∧ LinksSettled State.reset ∧ State.reset.sve.endless = false ∧ State.reset.pending = [] := by decide +kernel

theorem witness_RequestPayloadReadsBack :
    (Request.setActuator actArg).wellFormed = true
    ∧ readRequest 0x20 (writePayload (.setActuator actArg)) = some (.setActuator actArg) := by decide +kernel

theorem witness_ReplyTimeoutAnswersTimedOut :
    let s := (at_ 10 0 State.reset).updLink .director fun k => { k with slots := k.slots.set 1 (waiting 1) }
    PlanQuiet s ∧ (s.link .director).slots.get 1 = waiting 1 ∧ bringsReplyTimeout .director 1 s = true := by
  decide +kernel

theorem witness_ServoPeriodMovesTheClocks :
    let s := (at_ 1023 0 (withState .gated armed)).updTmb fun t => { t with loadPhase := 10 }
    PlanQuiet s ∧ (s.tmb.q + 1) % 1024 * 100 % 1024 < 100 ∧ (s.tmb.loadPhase + 1) % 1024 * 100 % 1024 < 100
    ∧ s.lsq.state = .gated
    ∧ gives .loadClockAdvance s (fun t => decide (t.tmb.q = 0 ∧ t.tmb.hall = 1 ∧ t.tmb.loadValue = 1)) = true := by
  decide +kernel

theorem witness_HallTimeFollowsThePeriods :
    State.reset.tmb.q < 1024 ∧ ({ State.reset.tmb with q := 1023 } : Tmb).advance.q = (0 * 1024 + 99) / 100
    ∧ ({ State.reset.tmb with q := 10 } : Tmb).advance.q = (1 * 1024 + 99) / 100 := by decide +kernel

theorem witness_FeedbackIsHeld :
    let channels : List FeedbackIn :=
      { force := 1000000, disp := -500000, valid := true } :: { force := 1000001, disp := 0, valid := true }
        :: List.replicate 6 { force := 0, disp := 0, valid := false }
    channels.length = 8
    ∧ gives (.feedbackArrival channels) State.reset
        (fun t => decide ((t.act 0).force = 1000000 ∧ (t.act 1).fresh = false)) = true := by decide +kernel

/-- R46, R47: kp = 4,096 and an error of −7 give the valve −7 and a sum of 64 × −7 = −448. -/
theorem witness_ServoPeriodDrivesTheValves :
    let s := armed.updAct 0 fun a => { a with force := 7 }
    PlanQuiet s ∧ s.pru.state = .armed ∧ seqResting s = true
    ∧ gives .servoPeriodExpiry s
        (fun t => decide (t.pru.state = .armed ∧ (t.act 0).valve = -7 ∧ (t.act 0).integral = -448)) = true := by
  decide +kernel

/-- In SAFE the measured reference load is formed and nothing is driven (worked, 02: 1,210 and 2,980 over shares of
500 and 1,250 give 2,394). -/
theorem witness_ServoPeriodDrivesTheValves_safe :
    let on (share : Nat) (force : Int) (a : Actuator) : Actuator :=
      { a with cfg := { onCfg with share := share }, force := force, valve := 9 }
    let s := (State.reset.updAct 0 (on 500 1210)).updAct 1 (on 1250 2980)
    PlanQuiet s ∧ s.pru.state = .safe
    ∧ gives .servoPeriodExpiry s (fun t => decide (t.asa.pm = 2394 ∧ (t.act 0).valve = 0)) = true := by decide +kernel

/-- While unloading, the value moves from 5,000 to 4,000 on its way to the rest force 0. -/
theorem witness_ServoPeriodDrivesTheValves_unloading :
    let s := withPru .unloading (withState .unloading (armed.updAct 0 fun a => { a with unload := some 5000 }))
    PlanQuiet s ∧ s.pru.state = .unloading ∧ s.lsq.state = .unloading ∧ (s.act 0).unload = some 5000
    ∧ (s.act 0).cfg.enabled = true
    ∧ gives .servoPeriodExpiry s
        (fun t => decide (t.pru.state = .unloading ∧ (t.act 0).unload = some 4000 ∧ (t.act 0).setpoint = some 4)) = true
    := by decide +kernel

theorem witness_SensorAndTwistStartsAreLatched :
    let s := armed.updAct 0 fun a => { a with missing := 7 }
    let u := ((armed.updAct 1 fun a => { a with cfg := onCfg, force := 2, setpoint := some 0 }).updFrame 0 fun f =>
      { f with limit := 1, confirm := 1 })
    PlanQuiet s ∧ bringsSensorStart 0 s = true ∧ (s.cause .sensor).level = some .dump
    ∧ (s.cause .sensor).masked = false ∧ PlanQuiet u ∧ bringsTwistStart 0 u = true := by decide +kernel

/-- OVERLOAD starts above the trip force and not at it; LIMIT ends on the envelope's edge, and SENSOR at a fresh sample.
A twist count that falls back to 0 ends TWIST. -/
theorem witness_SensorAndTwistStartsAreLatched_each :
    let at_ (force disp : Int) (limit fresh : Bool) (missing : Nat) : State :=
      ((armed.updAct 0 fun a =>
        { a with cfg := { onCfg with trip := 40, dmin := -9 }, force := force, disp := disp, limit := limit,
                 fresh := fresh, missing := missing }).updCause .sensor
        fun c => { c with active := [0] }).updCause .limit fun c => { c with active := [0] }
    let twist := (armed.updAct 1 fun a => { a with cfg := onCfg, setpoint := some 0 }).updFrame 0 fun f =>
      { f with limit := 1, confirm := 1, count := 4, twist := true }
    PlanQuiet (at_ 41 0 false true 0) ∧ PlanQuiet twist
    ∧ gives .servoPeriodExpiry (at_ 41 0 false true 0) (fun t => decide ((t.cause .overload).latched = [0])) = true
    ∧ gives .servoPeriodExpiry (at_ 40 (-9) true true 8) (fun t => decide ((t.cause .overload).latched = []
        ∧ (t.cause .limit).active = [] ∧ (t.cause .sensor).active = [] ∧ (t.act 0).missing = 0)) = true
    ∧ gives .servoPeriodExpiry twist
        (fun t => decide (t.pru.state = .armed ∧ (t.frame 0).count = 0 ∧ (t.frame 0).twist = false)) = true := by
  decide +kernel

theorem witness_ArrayRequestsWriteTheirRecords :
    let s := armed.updAct 7 fun a => { a with cfg := { a.cfg with enabled := true, frame := 3, inverted := true } }
    Accepts .director s ∧ actArg.index = (7 : Fin 8).val ∧ actArg.frame = (3 : Fin 4).val
    ∧ actArg.use = true.toNat ∧ actArg.polarity = true.toNat
    ∧ (s.act 7).cfg.enabled = true ∧ (s.act 7).cfg.frame = 3 ∧ seqResting s = true
    ∧ (armed.act 7).cfg.enabled = false ∧ armed.pru.state.servo = true
    ∧ (s.act 7).cfg.share ≠ 2000 ∧ seqResting (withState .running s) = false := by decide +kernel

/-- Use changes only in SAFE or DUMPED: what becomes ENABLED there, and what becomes UNUSED there with a condition that
holds; and each field that no actuator has. -/
theorem witness_ArrayRequestsWriteTheirRecords_use_and_fields :
    let s := withPru .dumped (armed.updAct 7 fun a => { a with cfg := onCfg, overload := true, missing := 8 })
    ({ actArg with use := 0 } : ActuatorArg).use = false.toNat ∧ (s.act 7).cfg.enabled = true ∧ s.pru.state = .dumped
    ∧ (s.act 7).overload = true ∧ 8 ≤ (s.act 7).missing ∧ (State.reset.act 7).cfg.enabled = false
    ∧ State.reset.pru.state = .safe ∧ actArg.fmin ≤ actArg.fmax ∧ actArg.dmin ≤ actArg.dmax
    ∧ clampInt (-1000000) 1000000 ({ actArg with fmax := 4 } : ActuatorArg).fmax < clampInt (-1000000) 1000000 5
    ∧ gives (.setActuator .director 7#8 { actArg with use := 2 }) State.reset
        (fun t => decide (t.asa = State.reset.asa ∧ sent t = [4#8])) = true
    ∧ gives (.setActuator .director 7#8 { actArg with use := 0 }) s
        (fun t => decide ((t.act 7).overload = false ∧ (t.act 7).cfg.enabled = false)) = true := by decide +kernel

theorem witness_RoundingIsToTheNearest : (0 : Int) < 2 ∧ 2 * (roundDiv (-7) 2 * 2 - -7).natAbs = (2 : Int).natAbs := by
  decide +kernel

theorem witness_HalfCycleStaysBetweenItsEnds :
    let h : Half := { start := 50000, stop := 0, len := 8192, k := 8192, rising := false }
    0 < h.len ∧ h.k ≤ h.len ∧ h.stop ≤ h.start ∧ h.k = h.len := by decide +kernel

theorem witness_ProgramRequestsEditTheTable :
    let full := State.reset.updLsq fun q => { q with prog := List.replicate 128 { seg := .hold 1 false, rep := none } }
    Accepts .director State.reset ∧ State.reset.lsq.prog.length < 128 ∧ Accepts .director full
    ∧ 128 ≤ full.lsq.prog.length ∧ 127 < full.lsq.prog.length
    ∧ checkSegment full.lsq.prog.length (.jump 127 65535) = some (.jump 127 65535, false)
    ∧ seqResting full = true ∧ seqResting (withState .gated full) = false := by decide +kernel

theorem witness_RunAndRestartBeginAlignment :
    let e : ProgEntry := { seg := .cycle 0 100 16 5 false, rep := none }
    let s := armed.updLsq fun q => { q with prog := [e], restart := some { index := 0, cycles := some 4 } }
    let u := withState .stopped s
    Accepts .director s ∧ s.lsq.state = .idle ∧ s.pru.state = .armed ∧ s.lsq.prog ≠ []
    ∧ Accepts .director u ∧ u.lsq.state = .stopped ∧ u.lsq.prog[0]? = some e
    ∧ gives (.restart .director 1#8 0) u
        (fun t => decide (t.lsq.state = .aligning ∧ t.lsq.pos = ⟨0, 4⟩)) = true := by decide +kernel

/-- No segment stands at index 1, and the saved CYCLE has reached the count now in the table. -/
theorem witness_RunAndRestartBeginAlignment_refused :
    let e : ProgEntry := { seg := .cycle 0 100 16 4 false, rep := none }
    let u := withState .stopped (armed.updLsq fun q =>
      { q with prog := [e], restart := some { index := 0, cycles := some 4 } })
    Accepts .director u ∧ u.lsq.state = .stopped ∧ u.pru.state = .armed ∧ u.lsq.prog.length ≤ 1
    ∧ u.lsq.prog[0]? = some e ∧ u.lsq.restart = some { index := 0, cycles := some 4 }
    ∧ gives (.restart .director 1#8 0) u (fun t => decide (t.lsq = u.lsq ∧ sent t = [4#8])) = true := by decide +kernel

theorem witness_ClaimAndConsentRequests :
    let s := running (.paused .gated) (newRunning (.gate 7 .both)) armed
    Accepts .panel s ∧ s.lsq.running = some (newRunning (.gate 7 .both)) ∧ s.lsq.state = .paused .gated
    ∧ armed.lsq.state ≠ .gated ∧ armed.lsq.state ≠ .paused .gated := by decide +kernel

theorem witness_ServoPeriodWorksTheProgram :
    let s := running .running { newRunning (.hold 3 false) with holdCount := 2 } armed
    let u := s.updLsq fun q => { q with pos := ⟨1, 0⟩ }
    PlanQuiet s ∧ s.pru.state = .armed ∧ bringsHoldExpiry s = true ∧ s.lsq.pos.index + 1 < s.lsq.prog.length
    ∧ bringsHoldExpiry u = true ∧ u.lsq.prog.length ≤ u.lsq.pos.index + 1
    ∧ gives .holdDurationExpiry u (fun t => decide (t.lsq.state = .done)) = true := by decide +kernel

/-- The program load after the period, for a segment entered at the period; a half-cycle is in progress in the fourth.
-/
theorem witness_ServoPeriodWorksTheProgram_running :
    let enters (seg : Segment) : State := (running .running (newRunning seg) armed).updLsq fun q =>
      { q with running := none }
    let half : Half := { start := 100, stop := 0, len := 16, k := 14, rising := false }
    let mid := running .running { newRunning (.cycle 0 100 16 5 false) with half := some half } armed
    let moves (s : State) (load : Int) : Bool :=
      gives .servoPeriodExpiry s fun t => decide (t.pru.state = .armed ∧ t.lsq.pFine = load)
    SurveysQuiet (enters (.ramp 1001 2000)) ∧ (enters (.ramp 1001 2000)).lsq.state = .running
    ∧ (enters (.ramp 1001 2000)).lsq.running = none
    ∧ moves (enters (.ramp 1001 2000)) 2000 = true
    ∧ moves (enters (.ramp 1 2000)) 1024 = true
    ∧ moves (enters (.hold 1 false)) 0 = true
    ∧ moves (enters (.cycle 0 100 16 5 false)) 1024 = true
    ∧ SurveysQuiet mid ∧ mid.lsq.running = some { newRunning (.cycle 0 100 16 5 false) with half := some half }
    ∧ moves mid 1024 = true := by decide +kernel

/-- A CYCLE entered with its option puts ENABLED actuator 0 into CAPTURING and opens a window with the period's values;
a paused one lets its window follow. -/
theorem witness_ServoPeriodWorksTheProgram_cycle_window :
    let cycle := newRunning (.cycle 0 100 16 5 true)
    let enters := (running .running cycle (armed.updAct 0 fun a => { a with force := 7 })).updLsq fun q =>
      { q with running := none }
    let w : Window := { acts := [{ act := 0, peak := some ⟨5, 0⟩, valley := none }], peakLoad := 100, valleyLoad := 0 }
    let paused := (running (.paused .running) cycle (armed.updAct 0 fun a => { a with force := 7 })).updCau fun c =>
      { c with window := some w }
    SurveysQuiet enters ∧ SurveysQuiet paused
    ∧ gives .servoPeriodExpiry enters
        (fun t => decide (t.pru.state = .armed ∧ t.cau.refs.get 0 = .capturing 0 0 ∧ t.cau.refs.get 1 = .none
          ∧ t.cau.window = some { acts := [{ act := 0, peak := some ⟨7, 0⟩, valley := some ⟨7, 0⟩ }],
                                  peakLoad := 100, valleyLoad := 0 })) = true
    ∧ gives .servoPeriodExpiry paused
        (fun t => decide (t.cau.window.map (fun w => w.acts.map (·.peak)) = some [some ⟨7, 0⟩])) = true := by
  decide +kernel

theorem witness_ServoPeriodWorksTheProgram_other_states :
    let gate := (running .gated (newRunning (.gate 7 .both)) armed).updLsq fun q =>
      { q with consentPanel := true, consentDirector := true }
    let paused := running (.paused .running) (newRunning (.cycle 0 100 16 5 false)) armed
    let aligning := withState .aligning (armed.updAct 1 fun a => { a with offset := -1001 })
    let jump (n : Nat) (rep : Option Nat) : State := armed.updLsq fun q =>
      { q with prog := [{ seg := .hold 1 false, rep := none }, { seg := .jump 0 n, rep := rep }], state := .running,
               pos := ⟨1, 0⟩ }
    let goesTo (s : State) (i : Nat) (st : SeqState) : Bool :=
      gives .servoPeriodExpiry s fun t => decide (t.pru.state = .armed ∧ t.lsq.pos.index = i ∧ t.lsq.state = st)
    SurveysQuiet gate ∧ goesTo gate 1 .running = true
    ∧ SurveysQuiet paused ∧ gives .servoPeriodExpiry paused (fun t => t.lsq.running.any (·.interrupted)) = true
    ∧ SurveysQuiet aligning ∧ goesTo aligning 0 .aligning = true
    ∧ gives .servoPeriodExpiry aligning (fun t => decide ((t.act 1).offset = -1)) = true
    ∧ SurveysQuiet (jump 0 none) ∧ goesTo (jump 0 none) 0 .running = true
    ∧ goesTo (jump 3 (some 0)) 1 .done = true ∧ goesTo (jump 3 (some 2)) 0 .running = true
    ∧ seqResting armed = true ∧ SurveysQuiet armed := by decide +kernel

/-- A HOLD at its duration and a ready gate that a survey in settle keeps waiting, and that go on without it; a HOLD and
a gate that trigger the entry waiting for them. -/
theorem witness_ServoPeriodWorksTheProgram_with_a_survey :
    let e (gate : Bool) : PlanEntry := { entry0 with settle := 9, trigger := if gate then .onGate else .onHold }
    let plan (gate : Bool) (trig : Trigger) (s : State) : State :=
      withSve (fun v => { v with state := .waiting, current := some 0, trigger := trig })
        (s.setEntry 0 (some (e gate)))
    let seg (gate : Bool) : Segment := if gate then .gate 7 .panel else .hold 3 true
    let atEnd (gate : Bool) (trig : Trigger) : State := plan gate trig
      ((running (if gate then .gated else .running) { newRunning (seg gate) with holdCount := 2 } armed).updLsq fun q =>
        { q with consentPanel := true })
    let enters (gate : Bool) : State := plan gate .untriggered
      ((running .running (newRunning (seg gate)) armed).updLsq fun q => { q with running := none })
    let stays (s : State) : Bool := gives .servoPeriodExpiry s fun t => decide (
      t.pru.state = (settledStage s).pru.state ∧ (settledStage s).sve.endless = false ∧ t.lsq.running ≠ none)
    let triggered (gate : Bool) : Bool := gives .servoPeriodExpiry (enters gate) fun t => decide (
      t.pru.state = .armed ∧ t.sve.trigger = .segment gate 0)
    (∀ gate, stays (atEnd gate (.segment gate 0)) = true ∧ stays (atEnd gate .untriggered) = false
      ∧ surveyWaits (settledStage (atEnd gate (.segment gate 0))).sve gate = true)
    ∧ hallAdvances (atEnd false (.segment false 0)) = false ∧ bringsSettleExpiry (atEnd false (.segment false 0)) = false
    ∧ (∀ gate, triggered gate = true) := by decide +kernel

theorem witness_ServoPeriodWorksTheProgram_unloading :
    let s := withPru .unloading (withState .unloading (armed.updAct 0 fun a => { a with unload := some 4096000 }))
    SurveysQuiet s ∧ s.lsq.state = .unloading
    ∧ gives .servoPeriodExpiry s (fun t => decide (t.pru.state = .unloading ∧ t.lsq = s.lsq)) = true := by decide +kernel

theorem witness_CycleCompletionIsCountedAndJudged :
    let r : Running :=
      { newRunning (.cycle 0 100 16 5 false) with
        half := some { start := 100, stop := 0, len := 16, k := 15, rising := false } }
    let w : Window :=
      { acts := [{ act := 0, peak := some ⟨100, 200⟩, valley := none }], peakLoad := 100, valleyLoad := 0 }
    let s := (running .running r armed).updCau fun c => { c with window := some w }
    let refs (x : StiffRef) : State := s.updCau fun c => { c with refs := c.refs.set 0 x }
    let miss := s.updCau fun c =>
      { c with window := some { w with peakLoad := 5000 }, cfg := { c.cfg with tracking := 1 } }
    let full := s.updCau fun c => { c with total := 4294967295 }
    PlanQuiet s ∧ bringsCycleCompletion s = true ∧ s.cau.window = some w ∧ s.lsq.running = some r
    ∧ (w.acts.map fun q => q.act).Nodup ∧ SurveysQuiet s ∧ bringsCycleCompletion full = true
    ∧ gives .cycleCompletion s
        (fun t => decide (t.cau.total = 1 ∧ t.cau.achieved = 1 ∧ t.lsq.pos.cyclesDone = 1)) = true
    ∧ gives .cycleCompletion full (fun t => decide (t.cau.total = 4294967295 ∧ t.cau.achieved = 0)) = true
    ∧ gives .cycleCompletion (refs (.capturing 15 7500)) (fun t => decide (t.cau.refs.get 0 = .valid 500)) = true
    ∧ gives .cycleCompletion (refs (.valid 600)) (fun t => decide (t.cau.dropRuns.get 0 = 1)) = true
    ∧ gives .cycleCompletion miss
        (fun t => decide (t.cau.outTol = 1 ∧ (t.cause .tracking).latched = [0] ∧ t.cau.trackRun = 0)) = true := by
  decide +kernel

/-- The unload value one step above the rest force arrives at this period. -/
theorem witness_UnloadCompletionStopsTheSequencer :
    let s := withPru .unloading (withState .unloading (armed.updAct 0 fun a => { a with unload := some 1000 }))
    PlanQuiet s ∧ bringsUnloadCompletion s = true
    ∧ gives .unloadCompletion s (fun t => decide (t.pru.state = .unloaded)) = true := by decide +kernel

/-- The same period brings the eighth missing sample, and SENSOR dumps what the completion has seeded; the program load
stands (log 54). -/
theorem witness_UnloadCompletionStopsTheSequencer_dumped :
    let s := withPru .unloading (withState .unloading (armed.updAct 0 fun a =>
      { a with unload := some 1000, missing := 7, force := 500 }))
    PlanQuiet s ∧ bringsUnloadCompletion s = true
    ∧ gives .unloadCompletion s (fun t => decide (
        t.pru.state = .dumped ∧ t.lsq.state = .stopped ∧ t.asa.pm = 500 ∧ t.lsq.pFine = 512000
        ∧ (t.act 0).unload = none ∧ (t.act 0).setpoint = none)) = true := by decide +kernel

theorem witness_CycleAccountingRequestsWrite :
    let answers (c : Instr) (b : Byte) : Bool := gives c State.reset fun t => decide ((sent t).head? = some b)
    Accepts .director State.reset ∧ cycleArg.exceptions = true.toNat
    ∧ answers (.setCycleAccounting .director 1#8 cycleArg) 0#8 = true
    ∧ answers (.setCycleAccounting .director 1#8 { cycleArg with drop := 1000 }) 1#8 = true
    ∧ answers (.setCycleAccounting .director 1#8 { cycleArg with exceptions := 2 }) 4#8 = true
    ∧ answers (.setStiffnessReference .director 1#8 8 5) 4#8 = true
    ∧ answers (.clearStiffnessReference .director 1#8 8) 4#8 = true := by decide +kernel

theorem witness_ScanBecomesLatestValues :
    let s := mapped State.reset
    let silent := s.updModule 0 fun m => { m with silent := true }
    SurveysQuiet s ∧ (s.gauge 0).mapping = some (0, 0)
    ∧ (ratios 8000000)[(0 : Fin 16).val]? = some { ratio := 8000000, overRange := false }
    ∧ (8000000 : Int).natAbs ≤ 8000000 ∧ 8000000 < (8000001 : Int).natAbs
    ∧ SurveysQuiet silent ∧ (silent.module 0).silent = true := by decide +kernel

/-- Arrival 5 of the worked deviation (04): d = 350 beyond the band 300 for the third time. -/
theorem witness_DeviationStartsAtItsConfirmCount :
    let s := ((mapped armed).updGauge 0 fun g =>
      { g with watch := true, band := 300, confirm := 3, devRun := 2, ref := .valid 5000 1000 13107 }).updAsa fun a =>
        { a with pm := 60000 }
    SurveysQuiet s ∧ s.pru.state ≠ .safe ∧ s.pru.state ≠ .dumped ∧ (s.gauge 0).mapping = some (0, 0)
    ∧ (s.gauge 0).watch = true ∧ (s.gauge 0).ref = .valid 5000 1000 13107 ∧ (s.gauge 0).devHolds = false
    ∧ strainOf (s.gauge 0).bridge (s.gauge 0).gfm 0 617500 = 12350
    ∧ (s.gauge 0).band < ((12350 : Int) - expectedStrain 5000 1000 13107 60000).natAbs
    ∧ (s.gauge 0).confirm ≤ min 255 ((s.gauge 0).devRun + 1)
    ∧ gives (.scanArrival 0 (ratios 617500)) s
        (fun t => decide ((t.gauge 0).lastDev = some 350 ∧ t.pru.state = .holding)) = true := by decide +kernel

/-- A deviation that holds: at the band exactly it ends, one beyond it stays; in SAFE and DUMPED it ends; over range, or
with the watch off, nothing changes.  The flag and the latched subject stay. -/
theorem witness_DeviationStartsAtItsConfirmCount_held :
    let s := (((mapped armed).updGauge 0 fun g =>
      { g with watch := true, band := 300, confirm := 3, devRun := 3, ref := .valid 0 0 0, devHolds := true,
               devFlag := true, lastDev := some 350 }).updCause .deviation fun c =>
        { c with latched := [0], active := [0], stamp := some 0, level := some .notify })
    let unwatched := s.updGauge 0 fun g => { g with watch := false }
    let after (r : Int) (s : State) (d : Option Int) (run : Nat) (l : List Nat) : Bool :=
      gives (.scanArrival 0 (ratios r)) s fun t => decide (
        (t.gauge 0).lastDev = d ∧ (t.gauge 0).devRun = run ∧ (t.gauge 0).devHolds = l.contains 0
        ∧ (t.gauge 0).devFlag = true ∧ (t.cause .deviation).active = l ∧ (t.cause .deviation).latched = [0])
    SurveysQuiet s ∧ (s.gauge 0).mapping = some (0, 0) ∧ (s.gauge 0).devHolds = true
    ∧ strainOf 4 2000 0 15000 = 300 ∧ strainOf 4 2000 0 15050 = 301
    ∧ after 15000 s (some 300) 0 [] = true ∧ after 15050 s (some 301) 4 [0] = true
    ∧ after 15050 (withPru .safe s) none 0 [] = true ∧ after 15050 (withPru .dumped s) none 0 [] = true
    ∧ after 8000001 s (some 350) 3 [0] = true ∧ after 15050 unwatched (some 350) 3 [0] = true := by decide +kernel

theorem witness_GaugeMapRequestsChangeTheMap :
    let s := mapped State.reset
    Accepts .director s ∧ gaugeArg.gauge = (0 : Fin 256).val ∧ gaugeArg.module = (15 : Fin 16).val
    ∧ gaugeArg.input = (15 : Fin 16).val ∧ gaugeArg.watch = true.toNat ∧ gaugeArg.bridge = 4
    ∧ (∀ h : Fin 256, h ≠ 0 → (s.gauge h).mapping ≠ some (15, 15)) ∧ (s.gauge 0).mapping ≠ some (15, 15)
    ∧ gathering s 0 = false ∧ (s.gauge 0).mapping = some (0, 0) ∧ (1 : Fin 256) ≠ 0 := by decide +kernel

theorem witness_UnmapGauge_of_a_gathered_gauge :
    let s := withSve (fun v => { v with work := .collecting collection }) (grouped State.reset)
    Accepts .director s ∧ gathering s 0 = true := by decide +kernel

/-- The same input again, with other settings: a change of scale, the watch turned off, and neither; and an input that
another gauge holds. -/
theorem witness_GaugeMapRequestsChangeTheMap_same_input :
    let s := (mapped State.reset).updGauge 0 fun g => { g with watch := true, devHolds := true }
    let again : GaugeArg := { gaugeArg with gauge := 0, module := 0, input := 0, gfm := 2000, confirm := 3 }
    let map (a : GaugeArg) (p : Gauge → Bool) : Bool := gives (.mapGauge .director 1#8 a) s fun t => p (t.gauge 0)
    let busy := withSve (fun v => { v with work := .collecting collection }) (grouped State.reset)
    let refuses (c : Instr) : Bool := gives c s fun t => decide (t.ssu = s.ssu ∧ sent t = [4#8])
    Accepts .director s ∧ (s.gauge 0).mapping = some (0, 0) ∧ (s.gauge 0).bridge = 4 ∧ (s.gauge 0).gfm = 2000
    ∧ map again (·.devHolds) = true ∧ map { again with watch := 0 } (fun g => !g.devHolds) = true
    ∧ map { again with gfm := 2001 } (fun g => decide (g.gfm = 2001 ∧ g.devHolds = false)) = true
    ∧ (s.gauge 1).mapping ≠ some (0, 0) ∧ (1 : Fin 256) ≠ 0
    ∧ gathering busy 0 = true ∧ Accepts .director busy ∧ (busy.gauge 0).mapping ≠ some (15, 15)
    ∧ gathering State.reset 0 = false ∧ (State.reset.gauge 0).mapping = none
    ∧ refuses (.mapGauge .director 1#8 { gaugeArg with module := 16 }) = true
    ∧ refuses (.mapGauge .director 1#8 { gaugeArg with bridge := 3 }) = true
    ∧ refuses (.unmapGauge .director 1#8 256) = true := by decide +kernel

theorem witness_ZeroGroupAndReferenceRequestsWrite :
    Accepts .director State.reset ∧ gathering State.reset 255 = false
    ∧ ((allFin 256).take 64).length ≤ 64 ∧ ((allFin 256).take 64).Nodup := by decide +kernel

/-- A deviation held for gauge 0 ends when its zero or its reference changes, and not at an equal zero; a gathered gauge
keeps its zero; a gauge, a group and lists that are refused. -/
theorem witness_ZeroGroupAndReferenceRequestsWrite_held_and_refused :
    let s := ((mapped State.reset).updGauge 0 fun g =>
      { g with ref := .valid 0 0 0, watch := true, devHolds := true }).updCause .deviation fun c =>
        { c with latched := [0], active := [0], stamp := some 0 }
    let busy := withSve (fun v => { v with work := .collecting collection }) (grouped State.reset)
    let active (c : Instr) (l : List Nat) : Bool := gives c s fun t => decide ((t.cause .deviation).active = l)
    let refuses (c : Instr) : Bool := gives c s fun t => decide (t.ssu = s.ssu ∧ sent t = [4#8])
    Accepts .director s ∧ gathering s 0 = false ∧ (s.gauge 0).devHolds = true
    ∧ active (.setZero .director 1#8 0 5) [] = true ∧ active (.setZero .director 1#8 0 0) [0] = true
    ∧ active (.clearReference .director 1#8 0) [] = true ∧ active (.clearReferenceAll .director 1#8) [] = true
    ∧ gathering busy 0 = true ∧ Accepts .director busy
    ∧ refuses (.setZero .director 1#8 256 5) = true ∧ refuses (.clearReference .director 1#8 256) = true
    ∧ refuses (.setGroup .director 1#8 32 []) = true ∧ refuses (.setGroup .director 1#8 0 [1, 1]) = true
    ∧ refuses (.setGroup .director 1#8 0 (List.range 65)) = true
    ∧ refuses (.setGroup .director 1#8 0 [256]) = true := by decide +kernel

theorem witness_SilencesAreLatched :
    let s := at_ 10 99 ((mapped State.reset).updCkm fun k =>
      { k with loops := k.loops.modify 0 fun l => { l with used := true },
               chans := k.chans.modify 7 fun c => { c with used := true } })
    SurveysQuiet s ∧ bringsModuleSilence 0 s = true ∧ bringsFrontendSilence s = true
    ∧ bringsChannelSilence 7 s = true ∧ bringsModuleSilence 0 (at_ 10 98 s) = false := by decide +kernel

theorem witness_PlanTableRequestsWrite :
    let busy := withSve (fun v => { v with state := .waiting, current := some 63 }) State.reset
    Accepts .director State.reset ∧ planArg.index = (63 : Fin 64).val ∧ planArg.next = (63 : Fin 64).val
    ∧ planArg.kind = SurveyKind.range.code ∧ planArg.group = (31 : Fin 32).val
    ∧ planArg.trigger = TriggerKind.everyCycles.code ∧ inOpenSet State.reset 63 = false
    ∧ Accepts .director busy ∧ busy.sve.current = some 63 ∧ busy.sve.state = .waiting := by decide +kernel

theorem witness_PlanTableRequestsWrite_open_set :
    let e : PlanEntry := { entry0 with complete := true, setNo := some 3 }
    let s := withSve (fun v => { v with openSet := some { first := none, lastDone := none }, setCounter := 3 })
      (State.reset.setEntry 63 (some e))
    Accepts .director s ∧ s.sve.openSet ≠ none ∧ s.entry 63 = some e ∧ e.complete = true
    ∧ e.setNo = some s.sve.setCounter ∧ s.sve.current = none := by decide +kernel

/-- Fields one past their ranges, and RANGE without EVERY_CYCLES and the reverse, are refused BAD_FIELD. -/
theorem witness_PlanTableRequestsWrite_refused :
    let refuses (c : Instr) : Bool := gives c State.reset fun t => decide (t.sve = State.reset.sve ∧ sent t = [4#8])
    ([{ planArg with index := 64 }, { planArg with kind := 5 }, { planArg with group := 32 },
      { planArg with trigger := 4 }, { planArg with next := 64 }, { planArg with trigger := 0 },
      { planArg with kind := 0 }].all fun a => refuses (.writePlanEntry .director 1#8 a)) = true
    ∧ refuses (.setPlanMode .director 1#8 2 0) = true ∧ refuses (.setPlanMode .director 1#8 0 64) = true := by
  decide +kernel

theorem witness_WalkingMakesTheEntryCurrent :
    let imm : PlanEntry := { entry0 with trigger := .immediate }
    let s := (State.reset.setEntry 0 (some entry0)).setEntry 1 (some entry0)
    let u := (grouped State.reset).setEntry 0 (some imm)
    let v := withSve (fun v => { v with state := .held, current := some 0, heldReason := some .endMark }) s
    let w := withSve (fun v => { v with state := .held, current := some 0, heldReason := some .endLast }) s
    Accepts .director s ∧ s.sve.endless = false ∧ s.sve.state = .off ∧ s.entry 0 = some entry0
    ∧ entry0.trigger = .onHold ∧ holdInForce s = false
    ∧ Accepts .director u ∧ u.entry 0 = some imm ∧ imm.kind ≠ .zero ∧ 1 ≤ imm.scans
    ∧ (0 : Fin 256) ∈ u.ssu.groups.get imm.group ∧ (u.gauge 0).mapping = some (0, 0) ∧ (u.module 0).silent = false
    ∧ Accepts .director v ∧ v.sve.heldReason = some .endMark ∧ v.entry entry0.next = some entry0
    ∧ w.sve.heldReason = some .endLast ∧ (1 : Fin 64) ≠ w.sve.lastIndex := by decide +kernel

/-- HELD with a broken chain, which an entry now at the next index mends, or which stays broken; and HELD at an aborted
entry.  The set that stands open at START PLAN has a first and a last entry. -/
theorem witness_WalkingMakesTheEntryCurrent_held :
    let o : OpenSet := { first := some 0, lastDone := some 0 }
    let held (why : HeldReason) (s : State) : State :=
      withSve (fun v => { v with state := .held, current := some 0, heldReason := some why, openSet := some o })
        (s.setEntry 0 (some entry0))
    let broken := held .chainBroken State.reset
    let mended := held .chainBroken (State.reset.setEntry 1 (some entry0))
    let aborted := held .aborted State.reset
    Accepts .director broken ∧ broken.sve.heldReason = some .chainBroken ∧ broken.entry entry0.next = none
    ∧ mended.entry entry0.next = some entry0 ∧ aborted.sve.heldReason = some .aborted
    ∧ gives (.continuePlan .director 1#8) broken (fun t => decide (t.sve = broken.sve)) = true
    ∧ gives (.continuePlan .director 1#8) mended (fun t => decide (t.sve.current = some 1)) = true
    ∧ gives (.continuePlan .director 1#8) aborted
        (fun t => decide (t.sve.current = some 0 ∧ t.sve.state = .waiting)) = true
    ∧ gives (.startPlan .director 1#8 0) broken
        (fun t => decide ((t.entry 0).bind (·.setLast) = some 0 ∧ t.sve.setCounter = 1)) = true
    ∧ broken.entry 1 = none
    ∧ ([Instr.startPlan .director 1#8 1, .startPlan .director 1#8 64, .extendPlan .director 1#8 64].all fun c =>
        gives c broken fun t => decide (t.sve = broken.sve ∧ sent t = [4#8])) = true := by decide +kernel

theorem witness_StopReleaseAndClearPlan :
    let done : PlanEntry := { entry0 with complete := true, setNo := some 1, setLast := some 0 }
    let s := State.reset.setEntry 0 (some done)
    let u := withSve (fun v => { v with state := .held, current := some 0 }) s
    Accepts .director s ∧ s.entry 0 = some done ∧ done.complete = true ∧ done.setLast = some 0
    ∧ s.sve.current = none ∧ s.sve.state = .off ∧ u.sve.state = .held ∧ u.sve.current = some 0
    ∧ (0 : Fin 64) ∈ spanFrom u 0 64 0 ∧ inSet u done.setNo 0 = true
    ∧ gives (.releaseSet .director 1#8 0) u (fun t => decide (
        t.sve.state = .off ∧ t.entry 0 = none ∧ sent t = [0#8, 1#8])) = true := by
  decide +kernel

/-- RELEASE SET with the entry at work in the span, of an entry without set-last, of a free one and past the table. -/
theorem witness_StopReleaseAndClearPlan_release_refused :
    let done : PlanEntry := { entry0 with complete := true, setNo := some 1, setLast := some 0 }
    let s := withSve (fun v => { v with state := .waiting, current := some 0 })
      ((State.reset.setEntry 0 (some done)).setEntry 1 (some { done with setLast := none }))
    let refuses (f : Nat) (b : Byte) : Bool :=
      gives (.releaseSet .director 1#8 f) s fun t => decide (t.sve = s.sve ∧ sent t = [b])
    Accepts .director s ∧ s.entry 0 = some done ∧ (0 : Fin 64) ∈ spanFrom s 0 64 0 ∧ s.sve.state = .waiting
    ∧ refuses 0 7#8 = true ∧ refuses 1 4#8 = true ∧ refuses 63 4#8 = true ∧ refuses 64 4#8 = true := by decide +kernel

/-- STOP PLAN while STALLED, the plan's record the one stalled and the fill at the low mark: the entry is ABORTED, the
set that entry 1 opened closes with it as its last, the claim goes and the program runs on; while COLLECTING with an
open set that has completed nothing; and in OFF. -/
theorem witness_StopReleaseAndClearPlan_stop :
    let o : OpenSet := { first := some 1, lastDone := some 1 }
    let done : PlanEntry := { entry0 with complete := true, setNo := some 1 }
    let plan := (State.reset.setEntry 0 (some entry0)).setEntry 1 (some done)
    let stalled := withSve (fun v =>
        { v with state := .stalled, current := some 0, openSet := some o, stalledRec := some (.survey stalledBody_) })
      ((setClaim .store true (running (.paused .running) (newRunning (.hold 3 false)) plan)).updCst fun c =>
        { c with stalls := [.plan] })
    let collects := withSve (fun v =>
        { v with state := .collecting, current := some 0, openSet := some { first := none, lastDone := none } }) plan
    Accepts .director stalled ∧ stalled.sve.state ≠ .off ∧ stalled.sve.current ≠ none
    ∧ gives (.stopPlan .director 1#8) stalled (fun t => decide (
        (t.entry 0).bind (·.result) = some .aborted ∧ (t.entry 1).bind (·.setLast) = some 1 ∧ t.cst.stalls = []
        ∧ t.lsq.claims.store = false ∧ t.lsq.state = .running ∧ t.sve.state = .off)) = true
    ∧ collects.sve.state = .collecting
    ∧ gives (.stopPlan .director 1#8) collects (fun t => decide (
        (t.entry 0).bind (·.result) = some .aborted ∧ (t.entry 1).bind (·.setLast) = none)) = true
    ∧ State.reset.sve.state = .off := by decide +kernel

theorem witness_SurveyNowIsDeferred :
    let s := grouped State.reset
    let u := withSve (fun v => { v with demand := List.replicate 3 (aRequest true) }) s
    let full := withSve (fun v => { v with demand := List.replicate 4 (aRequest true) }) s
    Accepts .panel s ∧ (s.link .panel).slots.get 0 = .free ∧ (∀ j : Fin 2, j < 0 → (s.link .panel).slots.get j ≠ .free)
    ∧ s.sve.demand = [] ∧ (0 : Fin 256) ∈ s.ssu.groups.get 0 ∧ (s.gauge 0).mapping = some (0, 0)
    ∧ (s.module 0).silent = false ∧ u.sve.demand ≠ [] ∧ u.sve.demand.length < 4 ∧ 4 ≤ full.sve.demand.length
    ∧ Accepts .panel u ∧ Accepts .panel full
    ∧ (let taken := s.updLink .panel fun k => { k with slots := Table.fill 2 (waiting 9) }
       Accepts .panel taken ∧ ∀ i : Fin 2, (taken.link .panel).slots.get i ≠ .free) := by decide +kernel

theorem witness_TriggersStartTheCollection :
    let s := withSve (fun v => { v with state := .waiting, current := some 0, trigger := .segment false 0 })
      ((grouped armed).setEntry 0 (some entry0))
    s.sve.endless = false ∧ s.sve.state = .waiting ∧ s.sve.current = some 0 ∧ s.entry 0 = some entry0
    ∧ entry0.kind = .static ∧ 1 ≤ entry0.scans ∧ s.sve.demand = [] ∧ s.sve.work = .idle
    ∧ (0 : Fin 256) ∈ s.ssu.groups.get entry0.group ∧ (s.gauge 0).mapping = some (0, 0)
    ∧ ((timeStage s).module 0).silent = false ∧ bringsSettleExpiry s = true
    ∧ gives .settleExpiry s (fun t => decide (t.pru.state = s.pru.state ∧ t.sve.state = .collecting)) = true := by
  decide +kernel

/-- An EVERY_CYCLES entry whose target the completing cycle reaches, and one triggered as the next rising half begins.
-/
theorem witness_TriggersStartTheCollection_at_cycles :
    let e : PlanEntry := { entry0 with kind := .range, trigger := .everyCycles }
    let r := newRunning (.cycle 0 100 16 5 false)
    let falling : Half := { start := 100, stop := 0, len := 16, k := 15, rising := false }
    let waits (done : Bool) (h : Option Half) : State :=
      withSve (fun v => { v with state := .waiting, current := some 0, trigger := .target 1 0 done })
        ((running .running { r with half := h } (grouped armed)).setEntry 0 (some e))
    let s := (waits false (some falling)).updCau fun c =>
      { c with window := some { acts := [], peakLoad := 100, valleyLoad := 0 } }
    let u := waits true none
    s.sve.endless = false ∧ s.sve.state = .waiting ∧ s.sve.current = some 0 ∧ s.entry 0 = some e
    ∧ bringsCycleCompletion s = true ∧ s.cau.window ≠ none
    ∧ gives .cycleCompletion s (fun t => decide (t.sve.trigger = .target 1 0 true)) = true
    ∧ u.entry 0 = some e ∧ e.kind = .range ∧ u.sve.demand = [] ∧ u.sve.work = .idle ∧ u.lsq.running = some r
    ∧ r.half = none ∧ r.nextRising = true
    ∧ gives .servoPeriodExpiry u
        (fun t => decide (t.pru.state = u.pru.state ∧ t.sve.state = .collecting)) = true := by decide +kernel

theorem witness_DemandCollectionEndsInItsRecord :
    let s := (withSve (fun v => { v with demand := [aRequest false], work := .collecting collection })
      (grouped State.reset)).updLink .director fun k => { k with slots := k.slots.set 0 (waiting 12000) }
    PlanQuiet s ∧ s.sve.demand = [aRequest false] ∧ (aRequest false).replied = false
    ∧ s.sve.work = .collecting collection ∧ collection.kind = .static
    ∧ (s.link .director).slots.get 0 = waiting 12000 ∧ fill s < 256 ∧ otherCount s < 252
    ∧ scanEndsCollection 0 (ratios 0) s = true
    ∧ gives (.collectionEnd 0 (ratios 0)) s (fun t => decide (t.sve.demand = [] ∧ fill t = 1)) = true := by
  decide +kernel

/-- Of records other than SNAPSHOT the store holds all it may: the collector keeps the record STALLED and the program is
PAUSED. -/
theorem witness_DemandCollectionEndsInItsRecord_stalled :
    let full := withRecords ((List.range 252).map fun n => cycleRecord (n + 1))
      (running .running (newRunning (.hold 9 false)) (grouped armed))
    let s := (withSve (fun v => { v with demand := [aRequest false], work := .collecting collection }) full).updLink
      .director fun k => { k with slots := k.slots.set 0 (waiting 12000) }
    PlanQuiet s ∧ 252 ≤ otherCount s ∧ (s.link .director).slots.get 0 = waiting 12000
    ∧ scanEndsCollection 0 (ratios 0) s = true
    ∧ gives (.collectionEnd 0 (ratios 0)) s (fun t => decide (t.pru.state = s.pru.state ∧ t.cst.stalls = [.demand]
        ∧ t.lsq.claims.store = true ∧ t.lsq.state = .paused .running)) = true := by decide +kernel

theorem witness_PlanCollectionEndsInItsRecord :
    let o : OpenSet := { first := none, lastDone := none }
    let s := withSve (fun v =>
        { v with state := .collecting, current := some 0, collector := some collection, openSet := some o })
      ((grouped State.reset).setEntry 0 (some entry0))
    s.sve.endless = false ∧ s.sve.state = .collecting ∧ s.sve.current = some 0 ∧ s.entry 0 = some entry0
    ∧ s.sve.collector = some collection ∧ collection.kind = .static ∧ collection.refused = false
    ∧ endsWith s.sve 0 entry0 = some .endMark
    ∧ s.sve.demand = [] ∧ s.sve.work = .idle ∧ fill s < 256 ∧ otherCount s < 252
    ∧ scanEndsCollection 0 (ratios 0) s = true
    ∧ gives (.collectionEnd 0 (ratios 0)) s (fun t => decide (t.sve.state = .held ∧ fill t = 1)) = true := by
  decide +kernel

/-- A REF_HIGH collection that forms a reference, a ZERO that finds the array loaded, and a RANGE collection at its
cycle's end. -/
theorem witness_PlanCollectionEndsInItsRecord_other_kinds :
    let o : OpenSet := { first := none, lastDone := none }
    let collects (k : SurveyKind) : State := withSve (fun v =>
        { v with state := .collecting, current := some 0, collector := some { collection with kind := k },
                 openSet := some o, trigger := .target 1 0 true })
      ((grouped (armed.updAsa fun a => { a with pm := 100000 })).setEntry 0 (some { entry0 with kind := k }))
    let high := (collects .refHigh).updGauge 0 fun g => { g with ref := .lowSet 0 0 }
    let zero : PlanEntry := { entry0 with kind := .zero, trigger := .immediate }
    let loaded := (State.reset.updAsa fun a => { a with pm := -501 }).setEntry 0 (some zero)
    let falling : Half := { start := 100, stop := 0, len := 16, k := 15, rising := false }
    let range := (running .running { newRunning (.cycle 0 100 16 5 false) with half := some falling }
      (collects .range)).updCau fun c => { c with window := some { acts := [], peakLoad := 100, valleyLoad := 0 } }
    scanEndsCollection 0 (ratios 100) high = true ∧ (collection.gauges.map fun x => x.gauge).Nodup
    ∧ gives (.collectionEnd 0 (ratios 100)) high
        (fun t => match (t.gauge 0).ref with | .valid 0 0 _ => true | _ => false) = true
    ∧ Accepts .director loaded ∧ loaded.sve.state = .off ∧ loaded.sve.openSet = none
    ∧ loaded.sve.zeroWindow < loaded.asa.pm.natAbs ∧ loaded.entry 0 = some zero
    ∧ gives (.startPlan .director 1#8 0) loaded
        (fun t => decide ((t.entry 0).bind (·.result) = some .refusedLoaded ∧ fill t = 0)) = true
    ∧ endsWith loaded.sve 0 zero = some .endMark
    ∧ bringsCycleCompletion range = true ∧ range.cau.window ≠ none
    ∧ endsWith range.sve 0 { entry0 with kind := .range } = some .endMark
    ∧ gives .cycleCompletion range
        (fun t => decide (t.pru.state = range.pru.state ∧ t.sve.state = .held ∧ fill t = 1)) = true := by decide +kernel

/-- The set closes and the engine moves on to an entry that waits, in a new set; finds the chain broken; and stops at the
last entry in LAST mode. -/
theorem witness_PlanCollectionEndsInItsRecord_endings :
    let e : PlanEntry := { entry0 with holdMark := false, setEnd := true }
    let s (last : Bool) (next : Option PlanEntry) : State := withSve (fun v =>
        { v with state := .collecting, current := some 0, collector := some collection, setCounter := 6
                 modeLast := last, openSet := some { first := some 5, lastDone := some 5 } })
      ((((grouped State.reset).setEntry 0 (some e)).setEntry 1 next).setEntry 5 (some entry0))
    let ends (last : Bool) (next : Option PlanEntry) (p : Sve → Prop) [∀ v, Decidable (p v)] : Bool :=
      scanEndsCollection 0 (ratios 0) (s last next)
        && gives (.collectionEnd 0 (ratios 0)) (s last next) fun t =>
          decide ((t.entry 5).bind (·.setLast) = some 0 ∧ p t.sve)
    Waits (s false (some entry0)) entry0 ∧ GoesOnQuietly (s false none) 0 e
    ∧ endsWith (s false none).sve 0 e = none ∧ endsWith (s true none).sve 0 e = some .endLast
    ∧ ends false (some entry0) (fun v => v.state = .waiting ∧ v.current = some 1 ∧ v.setCounter = 7) = true
    ∧ ends false none (fun v => v.heldReason = some .chainBroken ∧ v.openSet = none) = true
    ∧ ends true none (fun v => v.heldReason = some .endLast ∧ v.current = some 0) = true := by decide +kernel

/-- A STATIC collection and a RANGE collection that find no room. -/
theorem witness_PlanCollectionEndsInItsRecord_stalled :
    let o : OpenSet := { first := none, lastDone := none }
    let full := withRecords ((List.range 252).map fun n => cycleRecord (n + 1)) (grouped armed)
    let collects (k : SurveyKind) (s : State) : State := withSve (fun v =>
        { v with state := .collecting, current := some 0, collector := some { collection with kind := k },
                 openSet := some o, trigger := .target 1 0 true })
      (s.setEntry 0 (some { entry0 with kind := k }))
    let scanned := collects .static (running .running (newRunning (.hold 9 false)) full)
    let falling : Half := { start := 100, stop := 0, len := 16, k := 15, rising := false }
    let range := (collects .range (running .running { newRunning (.cycle 0 100 16 5 false) with half := some falling }
      full)).updCau fun c => { c with window := some { acts := [], peakLoad := 100, valleyLoad := 0 } }
    let stalls (c : Instr) (s : State) : Bool := gives c s fun t => decide (
      t.pru.state = s.pru.state ∧ t.sve.state = .stalled ∧ t.cst.stalls = [.plan] ∧ t.lsq.state = .paused .running)
    252 ≤ otherCount scanned ∧ scanEndsCollection 0 (ratios 0) scanned = true
    ∧ stalls (.collectionEnd 0 (ratios 0)) scanned = true
    ∧ bringsCycleCompletion range = true ∧ range.lsq.claims.store = false
    ∧ stalls .cycleCompletion range = true := by decide +kernel

/-- A store of 252 CYCLE records with the collectors of `stalls` waiting. -/
def stalledAt (stalls : List Collector) : State :=
  let v (v : Sve) : Sve :=
    { v with demand := [aRequest true], work := .stalled stalledBody_, state := .stalled, current := some 0,
             openSet := some { first := none, lastDone := none },
             stalledRec := some (.survey { stalledBody_ with result := .donePartial }) }
  setClaim .store true ((withSve v (withRecords ((List.range 252).map fun n => cycleRecord (n + 1))
    (State.reset.setEntry 0 (some entry0)))).updCst fun c => { c with stalls := stalls })

theorem witness_StalledRecordEntersAtARelease :
    let demand := withSve (fun v => { v with state := .off, current := none, stalledRec := none }) (stalledAt [.demand])
    let plan := withSve (fun v => { v with demand := [], work := .idle }) (stalledAt [.plan])
    let releases (n : Nat) (s : State) (p : State → Bool) : Bool :=
      releaseAdmits n s && gives (.stalledRecordEntry 1#8 n) s p
    Accepts .director demand ∧ demand.sve.endless = false ∧ demand.sve.work = .stalled stalledBody_
    ∧ releaseAdmits 0 demand = false
    ∧ releases 1 demand (fun t => decide (fill t = 252 ∧ newestNo t = some 253 ∧ t.sve.demand = [])) = true
    ∧ releases 1 plan (fun t => decide (t.sve.heldReason = some .endMark ∧ t.cst.stalls = []
        ∧ (t.entry 0).bind (·.result) = some .donePartial)) = true := by decide +kernel

/-- Both in either order: two places let both in, one place the first. -/
theorem witness_StalledRecordEntersAtARelease_both :
    let both (order : List Collector) (n : Nat) (left : List Collector) : Bool :=
      releaseAdmits n (stalledAt order) && gives (.stalledRecordEntry 1#8 n) (stalledAt order) fun t => decide (
        t.cst.stalls = left ∧ fill t = 252
        ∧ (t.sve.state = .held ↔ Collector.plan ∉ left) ∧ (t.sve.demand = [] ↔ Collector.demand ∉ left))
    both [.demand, .plan] 2 [] = true ∧ both [.plan, .demand] 2 [] = true
    ∧ both [.demand, .plan] 1 [.plan] = true ∧ both [.plan, .demand] 1 [.demand] = true
    ∧ gives (.clearStore .director 1#8) (stalledAt [.plan, .demand])
        (fun t => decide (t.cst.stalls = [] ∧ fill t = 2 ∧ t.sve.state = .held ∧ t.sve.demand = [])) = true
    ∧ gives (.releaseStore .director 1#8 2) (stalledAt [.plan, .demand])
        (fun t => decide (t.cst.stalls = [] ∧ fill t = 252)) = true
    ∧ endsWith (stalledAt [.plan]).sve 0 entry0 = some .endMark := by decide +kernel

theorem witness_StoreRequestsRemoveAndMark :
    let s := withRecords ((List.range 3).map fun n => cycleRecord (n + 1)) State.reset
    Accepts .director s ∧ s.sve.endless = false ∧ s.cst.stalls = []
    ∧ gives (.releaseStore .director 1#8 2) s (fun t => decide (fill t = 1 ∧ oldestNo t = some 3)) = true
    ∧ gives (.setStoreMarks .director 1#8 300 300) s (fun t => decide (t.cst.high = 252 ∧ t.cst.low = 251)) = true := by
  decide +kernel

/-- The STORE claim is the last one and the records left stand at the low mark, so the program goes on. -/
theorem witness_StoreRequestsRemoveAndMark_last_claim :
    let s := (withRecords ((List.range 65).map fun n => cycleRecord (n + 1))
      (setClaim .store true (withState (.paused .running) armed)))
    Accepts .director s ∧ s.cst.stalls = [] ∧ s.lsq.claims.store = true ∧ isPaused s = true
    ∧ gives (.releaseStore .director 1#8 1) s (fun t => decide (t.lsq.state = .running)) = true
    ∧ gives (.releaseStore .director 1#8 0) s (fun t => decide (t.lsq = s.lsq)) = true := by decide +kernel

/-- Stalled records that no removal lets in: they, and the STORE claim, stay. -/
theorem witness_StoreRequestsRemoveAndMark_stalled :
    let s := stalledAt [.plan, .demand]
    let stays (c : Instr) : Bool := gives c s fun t => decide (t.cst.stalls = s.cst.stalls ∧ t.lsq = s.lsq)
    s.cst.stalls ≠ [] ∧ StallsNamed s ∧ releaseAdmits 0 s = false
    ∧ stays (.releaseStore .director 1#8 0) = true ∧ stays (.setStoreMarks .director 1#8 252 251) = true := by
  decide +kernel

theorem witness_ReadStoreReturnsTheOldestRecordsWhole :
    let s := withRecords ((List.range 3).map fun n => cycleRecord (n + 1)) State.reset
    Accepts .panel s ∧ s.sve.endless = false
    ∧ gives (.readStore .panel 1#8 2) s (fun t => decide (t.lki.panel.tx.isSome = true ∧ t.cst = s.cst)) = true := by
  decide +kernel

theorem witness_LoopSampleDebouncesTheLoops :
    let s := armed.updLoop 31 fun l => { l with used := true, count := 3 }
    (List.replicate 32 true).length = 32 ∧ (List.replicate 32 true)[(31 : Fin 32).val]? = some true
    ∧ (s.loop 31).used = true ∧ true ≠ (s.loop 31).broken ∧ (s.loop 31).debounce ≤ (s.loop 31).count + 1
    ∧ (s.loop 30).used = false ∧ ((s.updLoop 31 fun l => { l with count := 2 }).loop 31).count + 1 < 4
    ∧ gives (.loopSample (List.replicate 32 true)) s
        (fun t => decide ((t.cause .crackLoop).active = [31] ∧ t.pru.state = .holding)) = true := by decide +kernel

/-- A sum that reaches its warning threshold, and one that reaches its alarm threshold. -/
theorem witness_WindowReportJudgesTheChannel :
    let s := State.reset.updChan 7 fun c => { c with used := true }
    (s.chan 7).used = true ∧ (s.chan 6).used = false ∧ s.ckm.caution = false ∧ (s.chan 7).aeAlarm = false
    ∧ (s.chan 7).warn ≤ (s.chan 7).sum - (s.chan 7).ring.headD 0 + 2000
    ∧ (s.chan 7).alarm ≤ (s.chan 7).sum - (s.chan 7).ring.headD 0 + 8000
    ∧ gives (.windowReport 7 8000) s (fun t => t.ckm.caution && (t.chan 7).aeAlarm) = true := by decide +kernel

theorem witness_CrackRequestsWrite :
    let s := State.reset.updChan 7 fun c => { c with used := true, ring := 2000 :: List.replicate 15 0, sum := 2000 }
    let broken := State.reset.updLoop 31 fun l => { l with used := true, broken := true }
    Accepts .director State.reset ∧ Level.dump ≠ .none ∧ channelsAbove State.reset = []
    ∧ Accepts .director s ∧ channelsAbove s ≠ []
    ∧ (broken.loop 31).broken = true ∧ false ≠ (broken.loop 31).used ∧ (s.chan 7).used = true
    ∧ clampNat 1 64 16 = (s.chan 7).window := by decide +kernel

/-- A latched loop whose break level rises to UNLOAD unloads an armed part, and leaves it armed where CRACK_LOOP is
masked; thresholds brought down to the sum turn caution on and start AE_ALARM, and one brought above it ends AE_ALARM;
fields one past their ranges are refused. -/
theorem witness_CrackRequestsWrite_judged :
    let loop := (armed.updLoop 31 fun l => { l with used := true, broken := true }).updCause .crackLoop fun c =>
      { c with latched := [31], active := [31], stamp := some 0 }
    let masked := loop.updCause .crackLoop fun c => { c with masked := true }
    let chan := armed.updChan 7 fun c =>
      { c with used := true, ring := 2000 :: List.replicate 15 0, sum := 2000, warn := 2001 }
    let loud := (chan.updChan 7 fun c => { c with alarm := 2000, warn := 2000, aeAlarm := true }).updCause .aeAlarm
      fun c => { c with latched := [7], active := [7], stamp := some 0 }
    let refuses (c : Instr) : Bool := gives c State.reset fun t => decide (t.ckm = State.reset.ckm ∧ sent t = [4#8])
    Accepts .director loop ∧ 31 ∈ (loop.cause .crackLoop).latched ∧ Level.unload ≠ (loop.loop 31).level
    ∧ gives (.setLoop .director 1#8 31 1 4 3) loop (fun t => decide (t.pru.state = .unloading)) = true
    ∧ gives (.setLoop .director 1#8 31 1 4 3) masked (fun t => decide (t.pru.state = .armed)) = true
    ∧ gives (.setAeChannel .director 1#8 7 1 16 2000 2000) chan (fun t => decide (
        t.ckm.caution = true ∧ (t.cause .aeAlarm).active = [7] ∧ t.pru.state = .holding)) = true
    ∧ gives (.setAeChannel .director 1#8 7 1 16 2001 2001) loud (fun t => decide (
        (t.chan 7).aeAlarm = false ∧ (t.cause .aeAlarm).active = [] ∧ (t.cause .aeAlarm).latched = [7])) = true
    ∧ ([Instr.setLoop .director 1#8 32 1 4 2, .setLoop .director 1#8 0 2 4 2, .setLoop .director 1#8 0 1 4 0,
        .setLoop .director 1#8 0 1 4 5, .setAeChannel .director 1#8 8 1 16 1 1,
        .setAeChannel .director 1#8 0 2 16 1 1].all refuses) = true := by decide +kernel

theorem witness_EmergencyStopDumpsTheHydraulics :
    let asserted : State := { armed with pins := { armed.pins with estop := true } }
    armed.pins.estop = false ∧ (armed.cause .estop).level = some .dump ∧ (armed.cause .estop).masked = false
    ∧ armed.pru.state ≠ .safe ∧ armed.pru.state ≠ .dumped ∧ fill armed < 256 ∧ armed.sve.demand.length ≤ 1
    ∧ State.reset.pru.state = .safe ∧ asserted.pins.estop = true
    ∧ gives .estopAsserted armed (fun t => decide (t.pru.state = .dumped ∧ fill t = 1)) = true := by decide +kernel

/-- DEVIATION is latched at NOTIFY; raised to HOLD it stops the program, and raised to UNLOAD it also ends the survey of
the plan and the demand survey whose reply is owed. -/
theorem witness_HoldAndUnloadEntriesMoveTheOtherBlocks :
    let cycle := newRunning (.cycle 0 100 16 5 false)
    let s := (running .running cycle (grouped armed)).updCause .deviation fun c =>
      { c with latched := [0], active := [0], stamp := some 0, level := some .notify }
    let surveys := (withSve (fun v =>
        { v with state := .collecting, current := some 0, collector := some collection, demand := [aRequest false],
                 work := .collecting collection })
      (s.setEntry 0 (some entry0))).updLink .director fun k => { k with slots := k.slots.set 0 (waiting 9) }
    let raises (lv : Level) (s : State) (p : State → Bool) : Bool :=
      gives (.setCause .director 1#8 CauseKind.deviation.code lv.code 0) s p
    Accepts .director s ∧ CauseKind.deviation ≠ .crackLoop ∧ (s.cause .deviation).latched ≠ []
    ∧ allowedLevel .deviation .hold = true ∧ allowedLevel .deviation .unload = true ∧ s.pru.state = .armed
    ∧ raises .hold s (fun t => decide (t.pru.state = .holding ∧ t.lsq.state = .paused .running ∧ fill t = 1)) = true
    ∧ Accepts .director surveys ∧ surveys.sve.demand.length ≤ 1 ∧ surveys.entry 0 = some entry0
    ∧ (surveys.link .director).slots.get 0 = waiting 9
    ∧ raises .unload surveys (fun t => decide (t.pru.state = .unloading ∧ (t.act 0).unload = some 0 ∧ t.sve.demand = []
        ∧ t.lsq.restart = some { index := 0, cycles := some 0 } ∧ t.sve.heldReason = some .aborted)) = true := by
  decide +kernel

theorem witness_CauseRequestsSetAndTake :
    Accepts .director State.reset ∧ CauseKind.twist ≠ .crackLoop ∧ allowedLevel .twist .notify = true
    ∧ maskable .twist = true ∧ allowedLevel .estop .hold = false ∧ maskable .sensor = false
    ∧ DemandMet State.reset := by decide +kernel

theorem witness_ArmAndResumeAlarm :
    let loud := State.reset.updCause .deviation fun c => { c with latched := [0], stamp := some 0 }
    let line : State := { State.reset with pins := { State.reset.pins with estop := true } }
    let holding := setClaim .protection true (withState (.paused .running) (withPru .holding armed))
    Accepts .director State.reset ∧ State.reset.pru.state = .safe ∧ State.reset.pins.estop = false
    ∧ (demandedLevel State.reset).rank ≤ 1 ∧ line.pins.estop = true ∧ ¬ (demandedLevel loud).rank ≤ 1
    ∧ loud.pru.state = .safe ∧ holding.pru.state = .holding ∧ (demandedLevel holding).rank ≤ 1
    ∧ ¬ (demandedLevel (withPru .holding loud)).rank ≤ 1 ∧ Accepts .director holding
    ∧ gives (.resumeAlarm .director 1#8) holding (fun t => decide (t.lsq.state = .running)) = true
    ∧ gives (.arm .director 1#8) holding (fun t => decide ((sent t).head? = some 6#8)) = true
    ∧ gives (.resumeAlarm .director 1#8) armed (fun t => decide ((sent t).head? = some 6#8)) = true := by decide +kernel

theorem witness_OnlyTheHostStandsTheProtectionDown :
    mayReset .servoPeriodExpiry = false ∧ mayCarryRequest .servoPeriodExpiry = false
    ∧ gives .servoPeriodExpiry (withPru .holding armed) (fun t => decide (t.pru.state = .holding)) = true
    ∧ gives .estopClear State.reset (fun t => decide (t.pru.state = .safe)) = true := by decide +kernel

/-- A state that meets every invariant, and a step from it. -/
def beforeStop : State := { armed with pending := [.estopAsserted] }

theorem witness_a_step_answers_next :
    (match step beforeStop with | .next t => decide (t.pru.state = .dumped) | _ => false) = true := by decide +kernel

theorem witness_StepKeepsTheHydraulicsSafe : HydraulicsSafe beforeStop := by decide +kernel
theorem witness_StepKeepsTheSequencerSupervised : Supervised beforeStop := by decide +kernel
theorem witness_StepKeepsTheDemandMet : DemandMet beforeStop := by decide +kernel
theorem witness_StepKeepsTheStoreSound : StoreSound beforeStop := by decide +kernel
theorem witness_StepKeepsTheLinksSound : LinksSound beforeStop := by decide +kernel
theorem witness_CausesSound : CausesSound beforeStop := by decide +kernel
theorem witness_CrackSound : CrackSound beforeStop := by decide +kernel
theorem witness_CountersSound : CountersSound beforeStop := by decide +kernel
theorem witness_no_gauge_is_mapped : ∀ g : Fin 256, (beforeStop.gauge g).mapping = none := by decide +kernel
theorem witness_GaugeSound : ∀ g ∈ beforeStop.ssu.gauges.cells, GaugeSound g := by decide +kernel
theorem witness_GaugesSound : GaugesSound beforeStop :=
  ⟨fun g _ _ mapped => absurd (witness_no_gauge_is_mapped g) mapped, witness_GaugeSound⟩
theorem witness_GroupsSound : GroupsSound beforeStop := by decide +kernel
theorem witness_ConditionsShown : ConditionsShown beforeStop := by decide +kernel

theorem witness_StepKeepsTheCausesTrue : CausesSound beforeStop ∧ ConditionsShown beforeStop :=
  ⟨witness_CausesSound, witness_ConditionsShown⟩

theorem witness_StepKeepsTheMonitorsSound :
    CrackSound beforeStop ∧ GaugesSound beforeStop ∧ GroupsSound beforeStop ∧ CountersSound beforeStop :=
  ⟨witness_CrackSound, witness_GaugesSound, witness_GroupsSound, witness_CountersSound⟩

end Sys2Proof.Tests
end

section
/-! Proofs about rounding (00 R1): the magnitude of `roundDiv n d * d` and its bounds, its sign, and O20 from the two. -/

namespace Sys2Proof.Proofs

open Sys2Proof.Machine

/-- The multiple of `b` that `roundDiv` reaches when both numbers are magnitudes; `roundDiv_mul` ties it to `roundDiv`. -/
def nearestMultiple (a b : Nat) : Nat := (2 * a + b) / (2 * b) * b

/-- The half step above is included and the half step below is not: a half goes up, away from zero. -/
theorem nearestMultiple_bounds (a : Nat) {b : Nat} (hb : 0 < b) :
    2 * nearestMultiple a b ≤ 2 * a + b ∧ 2 * a < 2 * nearestMultiple a b + b := by
  have twice : 2 * nearestMultiple a b = 2 * b * ((2 * a + b) / (2 * b)) := by
    unfold nearestMultiple; ring
  have division : 2 * b * ((2 * a + b) / (2 * b)) + (2 * a + b) % (2 * b) = 2 * a + b := Nat.div_add_mod ..
  have rest : (2 * a + b) % (2 * b) < 2 * b := Nat.mod_lt _ (by omega)
  omega

/-- Multiplied back by the denominator, the quotient has the sign of the numerator, whatever the denominator's. -/
theorem roundDiv_mul (n d : Int) :
    roundDiv n d * d
      = if n < 0 then -(nearestMultiple n.natAbs d.natAbs : Int) else nearestMultiple n.natAbs d.natAbs := by
  rcases lt_or_ge d 0 with hd | hd
  · have magnitude : (d.natAbs : Int) = -d := by omega
    by_cases hn : n < 0 <;> simp [roundDiv, nearestMultiple, hn, hd, magnitude]
  · have magnitude : (d.natAbs : Int) = d := by omega
    by_cases hn : n < 0 <;> simp [roundDiv, nearestMultiple, hn, hd.not_gt, magnitude]

theorem natAbs_roundDiv_mul (n d : Int) : (roundDiv n d * d).natAbs = nearestMultiple n.natAbs d.natAbs := by
  rw [roundDiv_mul]
  split <;> simp

/-- Numerator and rounded multiple lie on the same side of zero, so the error is that of the magnitudes. -/
theorem natAbs_roundDiv_mul_sub (n d : Int) :
    (roundDiv n d * d - n).natAbs = ((nearestMultiple n.natAbs d.natAbs : Int) - n.natAbs).natAbs := by
  rw [roundDiv_mul]
  split <;> omega

/-- Settles O20: both halves are read off the bounds of `nearestMultiple` at the magnitudes. -/
theorem roundingIsToTheNearest : Obligations.RoundingIsToTheNearest := by
  refine ⟨fun n d hd => ?_, by decide, by decide⟩
  obtain ⟨above, below⟩ := nearestMultiple_bounds n.natAbs (Int.natAbs_pos.mpr hd)
  rw [natAbs_roundDiv_mul_sub, natAbs_roundDiv_mul]
  constructor
  · omega
  · intro half
    omega

end Sys2Proof.Proofs
end

section
/-! Proofs about feedback arrivals (02 R36): which samples are valid, what one channel keeps, and O16 channel by
channel. -/

namespace Sys2Proof.Proofs

open Sys2Proof.Machine

theorem goodSample_iff (f : FeedbackIn) :
    goodSample f = true ↔ f.valid = true ∧ f.force.natAbs ≤ 1000000 ∧ f.disp.natAbs ≤ 500000 := by
  simp [goodSample, and_assoc]

theorem feed_of_goodSample {f : FeedbackIn} (good : goodSample f = true) (a : Actuator) :
    a.feed f = { a with force := f.force, disp := f.disp, fresh := true } := if_pos good

theorem feed_of_not_goodSample {f : FeedbackIn} (bad : ¬ goodSample f = true) (a : Actuator) :
    a.feed f = a := if_neg bad

theorem takeFeedback_eq_set_acts (channels : List FeedbackIn) (s : State) :
    takeFeedback channels s = { s with asa := { s.asa with acts := (takeFeedback channels s).asa.acts } } := rfl

/-- Channel i of the array is fed the i-th entry of the set and no other. -/
theorem takeFeedback_act {channels : List FeedbackIn} {i : Fin 8} {f : FeedbackIn}
    (entry : channels[i.val]? = some f) (s : State) :
    (takeFeedback channels s).act i = (s.act i).feed f := by
  simp [takeFeedback, State.act, entry]

/-- Settles O16: channel i is fed its own entry, and a sample is good exactly when it is valid and within its ranges. -/
theorem feedbackIsHeld : Obligations.FeedbackIsHeld := by
  intro channels s _
  refine ⟨takeFeedback channels s, rfl, takeFeedback_eq_set_acts channels s, fun i f entry => ?_⟩
  rw [takeFeedback_act entry]
  constructor
  · intro valid force disp
    exact feed_of_goodSample ((goodSample_iff f).mpr ⟨valid, force, disp⟩) _
  · intro outside
    refine feed_of_not_goodSample (fun good => ?_) _
    obtain ⟨valid, force, disp⟩ := (goodSample_iff f).mp good
    rcases outside with invalid | force' | disp'
    · simp [valid] at invalid
    · omega
    · omega

end Sys2Proof.Proofs
end

section
/-! Proofs about requests that are taken (10 R180 to R183): the one effect on the links that a reply has, for a request
whose owner changes nothing and for one that the Panel may not send. -/

namespace Sys2Proof.Proofs

open Sys2Proof.Machine Sys2Proof.Safety

/-- What an update of a link does depends on that link as it stands only. -/
theorem updLink_congr {l : Link} {s : State} {f g : LinkSt → LinkSt} (same : f (s.link l) = g (s.link l)) :
    s.updLink l f = s.updLink l g := by
  cases l <;> simp_all [State.updLink, State.updLki, State.link]

/-- With no deferred reply READY the reply of a request joins the queue as it stands. -/
theorem placeOwn_of_readyOrder_nil {k : LinkSt} (noneReady : k.readyOrder = []) (f : FrameOut) :
    placeOwn f k = { k with replies := k.replies ++ [f] } := by
  simp [placeOwn, placeReply, joinReady, joinOne, noneReady]

theorem mayTake_of_accepts {l : Link} {s : State} (accepts : Accepts l s) : mayTake l s = true := by
  obtain ⟨noReset, room, _⟩ := accepts
  simp [mayTake, noReset, room, replyPlaces]

theorem service_updLink_placeOwn {l : Link} {s : State} (accepts : Accepts l s) (kind tag : Byte) (st : Status)
    (content : List Byte) :
    service (s.updLink l (placeOwn (replyFrame kind tag st content))) = replied l kind tag st content s := by
  obtain ⟨_, _, noneReady⟩ := accepts
  exact congrArg service (updLink_congr (placeOwn_of_readyOrder_nil noneReady _))

/-- A request whose owner answers and changes nothing has its reply as its one effect. -/
theorem service_takeRequest_of_handle_eq {l : Link} {s : State} {r : Request} {tag : Byte} {st : Status}
    {content : List Byte} (accepts : Accepts l s) (may : linkMay l (kindByte r) = true)
    (handled : handle l tag r s = (s, .reply st content)) :
    service (takeRequest l tag r s) = replied l (kindByte r) tag st content s := by
  simp only [takeRequest, mayTake_of_accepts accepts, may, if_true, handled, answer]
  exact service_updLink_placeOwn accepts ..

/-- A request of a kind that the link may not send is refused DENIED, whatever its owner would do (10 R183). -/
theorem takeRequest_of_not_linkMay {l : Link} {s : State} (accepts : Accepts l s) {r : Request}
    (mayNot : linkMay l (kindByte r) = false) (tag : Byte) :
    takeRequest l tag r s = s.updLink l (placeOwn (replyFrame (kindByte r) tag .denied [])) := by
  simp [takeRequest, mayTake_of_accepts accepts, mayNot, refuseRequest]

theorem finishPlan_of_not_endless {s : State} (notEndless : s.sve.endless = false) :
    finishPlan s = .next (service s) := by
  simp [finishPlan, notEndless, finish]

end Sys2Proof.Proofs
end

section
/-! Proofs about reading the Capture Store (06 R127): the records that a reply packs are a prefix of the list, as
long as the count and the payload's limit allow, and O44 from it. -/

namespace Sys2Proof.Proofs

open Sys2Proof.Machine Sys2Proof.Safety

@[simp] theorem length_leBits (n v : Nat) : (leBits n v).length = n := by
  induction n generalizing v with
  | zero => rfl
  | succ n ih => simp [leBits, ih]

@[simp] theorem length_encNat (n v : Nat) : (encNat n v).length = n := by
  unfold encNat
  split <;> simp

/-- The bytes of the first `n` records. -/
def recordBytes (n : Nat) (rs : List Record) : List Byte := ((rs.take n).map encRecord).flatten

@[simp] theorem recordBytes_zero (rs : List Record) : recordBytes 0 rs = [] := rfl

@[simp] theorem recordBytes_cons (n : Nat) (r : Record) (rs : List Record) :
    recordBytes (n + 1) (r :: rs) = encRecord r ++ recordBytes n rs := rfl

theorem packRecords_cons_of_fits {k used : Nat} {r : Record} (fits : used + (encRecord r).length ≤ 1024)
    (rs : List Record) :
    packRecords (k + 1) used (r :: rs) = encRecord r :: packRecords k (used + (encRecord r).length) rs :=
  if_pos fits

theorem packRecords_cons_of_not_fits {k used : Nat} {r : Record} (tooLong : ¬ used + (encRecord r).length ≤ 1024)
    (rs : List Record) : packRecords (k + 1) used (r :: rs) = [] :=
  if_neg tooLong

/-- `n` records from the front are what a reply packs that holds `used` bytes before them: at most `k` and the whole
list, within the limit, and one more would go past one of the three. -/
structure PacksExactly (k used : Nat) (rs : List Record) (n : Nat) : Prop where
  le_count : n ≤ k
  le_length : n ≤ rs.length
  within : used + (recordBytes n rs).length ≤ 1024
  maximal : n = k ∨ n = rs.length
    ∨ ∃ r, rs[n]? = some r ∧ 1024 < used + (recordBytes n rs).length + (encRecord r).length

theorem packsExactly_zero {k used : Nat} {rs : List Record} (room : used ≤ 1024)
    (stop : 0 = k ∨ 0 = rs.length ∨ ∃ r, rs[0]? = some r ∧ 1024 < used + (encRecord r).length) :
    PacksExactly k used rs 0 :=
  ⟨Nat.zero_le _, Nat.zero_le _, by simpa using room, by simpa using stop⟩

theorem PacksExactly.cons {k used n : Nat} {r : Record} {rs : List Record}
    (rest : PacksExactly k (used + (encRecord r).length) rs n) : PacksExactly (k + 1) used (r :: rs) (n + 1) where
  le_count := Nat.succ_le_succ rest.le_count
  le_length := Nat.succ_le_succ rest.le_length
  within := by simpa [Nat.add_assoc] using rest.within
  maximal := by simpa [Nat.add_assoc] using rest.maximal

/-- The packing stops where the count, the list or the limit ends it, and never inside a record. -/
theorem exists_packRecords_eq (k : Nat) (rs : List Record) {used : Nat} (room : used ≤ 1024) :
    ∃ n, packRecords k used rs = (rs.take n).map encRecord ∧ PacksExactly k used rs n := by
  induction k generalizing used rs with
  | zero => exact ⟨0, rfl, packsExactly_zero room (.inl rfl)⟩
  | succ k ih =>
      cases rs with
      | nil => exact ⟨0, rfl, packsExactly_zero room (.inr (.inl rfl))⟩
      | cons r rs =>
          by_cases fits : used + (encRecord r).length ≤ 1024
          · obtain ⟨n, packed, exactly⟩ := ih rs fits
            exact ⟨n + 1, by rw [packRecords_cons_of_fits fits, packed]; rfl, exactly.cons⟩
          · exact ⟨0, packRecords_cons_of_not_fits fits rs,
              packsExactly_zero room (.inr (.inr ⟨r, rfl, Nat.lt_of_not_le fits⟩))⟩

/-- The content of a READ STORE reply that carries the first `n` records (11 R198). -/
def storeContent (n : Nat) (s : State) : List Byte :=
  u16 (fill s) ++ u32 s.cst.nextNo ++ u8 n ++ recordBytes n s.cst.records

/-- With its status byte the content fills the prefix and the records. -/
theorem length_storeContent (n : Nat) (s : State) :
    (storeContent n s).length + 1 = readStorePrefix + (recordBytes n s.cst.records).length := by
  simp [storeContent, u16, u32, u8, readStorePrefix]
  omega

theorem readStore_of_packRecords_eq {k n : Nat} {s : State} (low : 1 ≤ k) (high : k ≤ 255)
    (packed : packRecords k readStorePrefix s.cst.records = (s.cst.records.take n).map encRecord)
    (inList : n ≤ s.cst.records.length) :
    readStore k s = (s, .reply .ok (storeContent n s)) := by
  simp [readStore, low, high, packed, inList, storeContent, recordBytes]

theorem readStore_zero (s : State) : readStore 0 s = (s, refuse .badField) := rfl

theorem linkMay_readStore (l : Link) (k : Nat) : linkMay l (kindByte (.readStore k)) = true := by
  cases l <;> rfl

/-- Whatever the store answers to READ STORE without a change is the one effect of the command. -/
theorem exec_readStore_of_eq {l : Link} {s : State} {k : Nat} {st : Status} {content : List Byte}
    (accepts : Accepts l s) (tag : Byte) (handled : readStore k s = (s, .reply st content)) :
    exec (.readStore l tag k) s = .next (replied l 0x48#8 tag st content s) :=
  congrArg Host.Outcome.next (service_takeRequest_of_handle_eq accepts (linkMay_readStore l k) handled)

theorem exec_releaseStore_panel {s : State} (accepts : Accepts .panel s) (notEndless : s.sve.endless = false)
    (tag : Byte) (n : Nat) :
    exec (.releaseStore .panel tag n) s = .next (replied .panel 0x49#8 tag .denied [] s) := by
  have mayNot : linkMay .panel (kindByte (.releaseStore n)) = false := rfl
  have denied := takeRequest_of_not_linkMay accepts mayNot tag
  calc exec (.releaseStore .panel tag n) s
      = finishPlan (takeRequest .panel tag (.releaseStore n) s) := rfl
    _ = .next (service (takeRequest .panel tag (.releaseStore n) s)) :=
        finishPlan_of_not_endless (by rw [denied]; exact notEndless)
    _ = .next (replied .panel 0x49#8 tag .denied [] s) := by
        rw [denied, service_updLink_placeOwn accepts]; rfl

/-- Settles O44: the packed records are a prefix by induction on the count, and a reading request leaves its reply. -/
theorem readStoreReturnsTheOldestRecordsWhole : Obligations.ReadStoreReturnsTheOldestRecordsWhole := by
  intro l tag s accepts
  refine ⟨fun k low high => ?_, exec_readStore_of_eq accepts tag (readStore_zero s), ?_⟩
  · have room : readStorePrefix ≤ 1024 := by decide
    obtain ⟨n, packed, exactly⟩ := exists_packRecords_eq k s.cst.records room
    have bytes := length_storeContent n s
    refine ⟨n, exactly.le_count, exactly.le_length,
      exec_readStore_of_eq accepts tag (readStore_of_packRecords_eq low high packed exactly.le_length), ?_, ?_⟩
    · exact bytes ▸ exactly.within
    · exact bytes ▸ exactly.maximal
  · rintro rfl notEndless n
    exact exec_releaseStore_panel accepts notEndless tag n

end Sys2Proof.Proofs
end

section
/-! Proofs about hall time (09 R170): when a hundredth begins, in terms of the remainder of q × 100 by 1,024, how many
hundredths a number of periods holds, and O15 from the two. -/

namespace Sys2Proof.Proofs

open Sys2Proof.Machine

/-- A period is 100 of the 1,024 parts of a hundredth: a hundredth begins where less than one period of it has passed. -/
theorem beginsHundredth_iff_mod_lt (q : Nat) : beginsHundredth q = true ↔ q * 100 % 1024 < 100 := by
  simp only [beginsHundredth, firstPeriod, beq_iff_eq]
  omega

/-- The first period of hundredth `h` lies in hundredth `h`. -/
theorem firstPeriod_mul_div (h : Nat) : firstPeriod h * 100 / 1024 = h := by
  unfold firstPeriod
  exact Nat.div_eq_of_lt_le (by omega) (by omega)

theorem beginsHundredth_firstPeriod (h : Nat) : beginsHundredth (firstPeriod h) = true := by
  rw [beginsHundredth, firstPeriod_mul_div, beq_self_eq_true]

/-- Within a second the first periods are those of the hundredths 0 to 99. -/
theorem beginsHundredth_iff_exists {q : Nat} (inSecond : q < 1024) :
    beginsHundredth q = true ↔ ∃ h, h < 100 ∧ q = firstPeriod h := by
  constructor
  · intro begins
    exact ⟨q * 100 / 1024, by omega, beq_iff_eq.mp begins⟩
  · rintro ⟨h, -, rfl⟩
    exact beginsHundredth_firstPeriod h

theorem nextPhase_lt (q : Nat) : nextPhase q < 1024 := Nat.mod_lt _ (by decide)

theorem nextPhase_mod (n : Nat) : nextPhase (n % 1024) = (n + 1) % 1024 := Nat.mod_add_mod ..

@[simp] theorem Tmb.advance_q (t : Tmb) : t.advance.q = nextPhase t.q := rfl

theorem Tmb.advance_hall (t : Tmb) :
    t.advance.hall = if beginsHundredth t.advance.q then (t.hall + 1) % wrap32 else t.hall := rfl

theorem Tmb.advance_hall_of_begins {t : Tmb} (begins : beginsHundredth t.advance.q = true) :
    t.advance.hall = (t.hall + 1) % wrap32 := by
  rw [Tmb.advance_hall, if_pos begins]

theorem Tmb.advance_hall_of_not_begins {t : Tmb} (inside : ¬ beginsHundredth t.advance.q = true) :
    t.advance.hall = t.hall := by
  rw [Tmb.advance_hall, if_neg inside]

/-- The whole hundredths in `n` periods: each second of 1,024 periods holds 100 of them. -/
def hundredths (n : Nat) : Nat := 100 * (n / 1024) + n % 1024 * 100 / 1024

theorem hundredths_eq_div (n : Nat) : hundredths n = n * 100 / 1024 := by
  unfold hundredths; omega

/-- One more period completes a hundredth exactly where the next one begins. -/
theorem hundredths_succ (n : Nat) :
    hundredths (n + 1) = if beginsHundredth ((n + 1) % 1024) then hundredths n + 1 else hundredths n := by
  have remainder : (n + 1) % 1024 * 100 % 1024 = (n + 1) * 100 % 1024 := Nat.mod_mul_mod ..
  simp only [hundredths_eq_div, beginsHundredth_iff_mod_lt, remainder]
  split <;> omega

/-- Hall time and phase follow the number of periods from the part reset. -/
theorem iterate_advance_reset (n : Nat) :
    (Tmb.advance^[n] State.reset.tmb).q = n % 1024
      ∧ (Tmb.advance^[n] State.reset.tmb).hall = hundredths n % wrap32 := by
  induction n with
  | zero => exact ⟨rfl, rfl⟩
  | succ n ih =>
      obtain ⟨phase, hall⟩ := ih
      rw [Function.iterate_succ_apply']
      have moved : (Tmb.advance^[n] State.reset.tmb).advance.q = (n + 1) % 1024 := by
        rw [Tmb.advance_q, phase, nextPhase_mod]
      refine ⟨moved, ?_⟩
      rw [Tmb.advance_hall, moved, hall, hundredths_succ]
      split
      · exact Nat.mod_add_mod ..
      · rfl

/-- Settles O15: a hundredth begins at the listed phases and no other, and induction on the number of periods. -/
theorem hallTimeFollowsThePeriods : Obligations.HallTimeFollowsThePeriods := by
  refine ⟨fun t _ => ?_, iterate_advance_reset⟩
  have begins_iff := beginsHundredth_iff_exists (nextPhase_lt t.q)
  refine ⟨rfl, fun first => Tmb.advance_hall_of_begins (begins_iff.mpr first), fun notFirst => ?_⟩
  refine Tmb.advance_hall_of_not_begins fun begins => ?_
  obtain ⟨h, low, first⟩ := begins_iff.mp begins
  exact notFirst h low first

end Sys2Proof.Proofs
end
